-- ==== Sys2Proof/Word.lean ====
section
/-! DEFINITION. The data words of the block and its storage cells, as plain data.

Widths follow 00_scope.md R7: storage cells and registers are 8 bits, timestamps and tick counts 16 bits, operation
words 32 bits, and a single-bit register is a Bool (true is 1). -/
namespace Sys2Proof

/-- An operation word (30_encoding.md R127). -/
abbrev Word := BitVec 32

/-- One 8-bit cell or register (00_scope.md R7). -/
abbrev Byte := BitVec 8

/-- A 16-bit tick count or timestamp (00_scope.md R7, 40_bit_timing.md R165). -/
abbrev Ticks := BitVec 16

/-- Six 8-bit cells: `DATA[0..5]` of a slot, `RX_SCRATCH[0..5]` or `EXP_DATA[0..5]` (20_memory.md R90). -/
structure Cells where
  c0 : Byte
  c1 : Byte
  c2 : Byte
  c3 : Byte
  c4 : Byte
  c5 : Byte
  deriving DecidableEq, Repr, Inhabited

/-- A transmit message slot: `DATA[0..5]`, `SIZE` and `PRE` (10_state.md R50). -/
structure Slot where
  data : Cells
  size : Byte
  pre : Byte
  deriving DecidableEq, Repr, Inhabited

end Sys2Proof
end

