-- ==== Sys2Proof/Syntax.lean ====
section
/-! DEFINITION. The agents, the 14 operations of spec/opcode_table.json with their operands, and the pseudo-operations. -/
namespace Sys2Proof

/-- The four agents that deliver operation words (60_exceptions.md R330). -/
inductive Agent where
  /-- the transmit timer-compare interrupt; delivers TXT -/
  | timer
  /-- the input pin-change interrupt; delivers RXE -/
  | edge
  /-- the main-loop body; delivers every operation but TXT and RXE -/
  | main
  /-- power-on or external reset; delivers RESET -/
  | rst
  deriving DecidableEq, Repr

/-- The operations, one constructor per row of the opcode table, with the operand fields of 30_encoding.md R128. -/
inductive Instr where
  /-- TXT, one transmit timer-compare interrupt (41_tx_encoder.md R170) -/
  | txt
  /-- RXE L, T: one input edge; `level` is L (true = rising), `time` is T (42_rx_decoder.md R210) -/
  | rxe (level : Bool) (time : Ticks)
  /-- REQ B: request the task of bit B (43_scheduler.md R250) -/
  | req (bit : BitVec 3)
  /-- CLR B: clear the task of bit B (43_scheduler.md R251) -/
  | clr (bit : BitVec 3)
  /-- SEL: select the highest pending task (43_scheduler.md R252) -/
  | sel
  /-- RDX I: read cell I of the exported buffer (44_host_ops.md R262) -/
  | rdx (index : BitVec 4)
  /-- WRS S, I, V: write V to cell I of slot S; `slot` false is slot 0, true slot 1 (44_host_ops.md R260) -/
  | wrs (slot : Bool) (index : BitVec 4) (value : Byte)
  /-- MODE Y: set the clean-output mode (44_host_ops.md R263) -/
  | mode (value : Bool)
  /-- CLI: mask interrupts (44_host_ops.md R267) -/
  | cli
  /-- SEI: unmask interrupts (44_host_ops.md R268) -/
  | sei
  /-- TXEN Y: enable or disable the transmit timer interrupt (44_host_ops.md R264) -/
  | txen (value : Bool)
  /-- RXEN Y: enable or disable the receive pin-change interrupt (44_host_ops.md R265) -/
  | rxen (value : Bool)
  /-- RDR R: read the register of number R (44_host_ops.md R266) -/
  | rdr (number : Byte)
  /-- RESET: reinitialise the block (44_host_ops.md R269) -/
  | reset
  deriving DecidableEq, Repr

/-- The pseudo-operations of 30_encoding.md R142, with their operands. -/
inductive Pseudo where
  /-- LOADMSG s, b0, ..., bk: write the bytes as given, then SIZE -/
  | loadMsg (slot : Bool) (bytes : List Byte)
  /-- LOADPKT s, b0, ..., bk: LOADMSG of the bytes followed by their XOR -/
  | loadPkt (slot : Bool) (bytes : List Byte)
  /-- START: TXEN 1, RXEN 1, SEI -/
  | start
  /-- READPKT: an untorn read of the exported buffer -/
  | readPkt
  /-- ACK t: CLR t -/
  | ack (bit : BitVec 3)
  deriving DecidableEq, Repr

end Sys2Proof
end

