-- ==== Sys2Proof/WellFormed.lean ====
section
/-! DEFINITION. Which operations are legal operand-wise (30_encoding.md R132, R133, R135, R139): the operand fields whose
width admits values the spec reserves are RDX's index, WRS's index and RDR's register number. -/
namespace Sys2Proof

/-- The ways an operation's operands can be reserved (30_encoding.md R139). -/
inductive IllFormed where
  /-- RDX index 7 to 15 -/
  | rdxIndex
  /-- WRS index 8 to 15 -/
  | wrsIndex
  /-- RDR number outside `RegMap` -/
  | rdrNumber
  deriving DecidableEq, Repr

/-- `RegMap` of 30_encoding.md R140: the register numbers 0x00..0x18 and 0x20..0x36. -/
def regMapped (number : Byte) : Bool :=
  decide (number.toNat ≤ 0x18) || (decide (0x20 ≤ number.toNat) && decide (number.toNat ≤ 0x36))

/-- What is wrong with an operation's operands, if anything. -/
def Instr.defect : Instr → Option IllFormed
  | .rdx index => if index.toNat ≤ 6 then none else some .rdxIndex
  | .wrs _ index _ => if index.toNat ≤ 7 then none else some .wrsIndex
  | .rdr number => if regMapped number then none else some .rdrNumber
  | .txt => none
  | .rxe _ _ => none
  | .req _ => none
  | .clr _ => none
  | .sel => none
  | .mode _ => none
  | .cli => none
  | .sei => none
  | .txen _ => none
  | .rxen _ => none
  | .reset => none

/-- An operation all of whose operands the spec gives a meaning. -/
abbrev Instr.WellFormed (i : Instr) : Prop := i.defect = none

end Sys2Proof
end

