-- ==== Sys2Proof/Decode.lean ====
section
/-! DEFINITION. The decoder (30_encoding.md R140), total on every agent and word and rejecting by name, and the encoder. -/
namespace Sys2Proof

/-- Why decode rejects a word; every reason raises the one fault `ILLEGAL_OP` (30_encoding.md R139, R140). -/
inductive Reject where
  /-- OP 0x0 or 0xF -/
  | reservedOpcode
  /-- a must-be-zero bit of the format is 1 -/
  | mustBeZero
  /-- RDX index above 6 or WRS index above 7 -/
  | indexOutOfRange
  /-- RDR of a number outside `RegMap` -/
  | reservedRegister
  /-- an agent not entitled to the operation (30_encoding.md R137) -/
  | agentNotEntitled
  deriving DecidableEq, Repr

/-- What decode gives: one operation with its operands, or a rejection. -/
inductive Decoded where
  | op (i : Instr)
  | illegal (why : Reject)
  deriving DecidableEq, Repr

/-- The field `w[lo + len - 1 : lo]` (00_scope.md R8). -/
def wordField (w : Word) (lo len : Nat) : BitVec len := w.extractLsb' lo len

/-- The operation `i`, provided the must-be-zero bits are 0. -/
def needZero (zero : Bool) (i : Instr) : Decoded := if zero then .op i else .illegal .mustBeZero

/-- Decode by opcode and operands, before the agent is checked (30_encoding.md R128 to R136, R140). -/
def decodeOperands (w : Word) : Decoded :=
  match (wordField w 28 4).toNat with
  | 0x1 => needZero (wordField w 0 28 == 0) .txt
  | 0x2 => needZero (wordField w 16 11 == 0) (.rxe (wordField w 27 1 == 1) (wordField w 0 16))
  | 0x3 => needZero (wordField w 3 25 == 0) (.req (wordField w 0 3))
  | 0x4 => needZero (wordField w 3 25 == 0) (.clr (wordField w 0 3))
  | 0x5 => needZero (wordField w 0 28 == 0) .sel
  | 0x6 =>
    if wordField w 4 24 == 0 then
      if (wordField w 0 4).toNat ≤ 6 then .op (.rdx (wordField w 0 4)) else .illegal .indexOutOfRange
    else .illegal .mustBeZero
  | 0x7 =>
    if wordField w 25 3 == 0 && wordField w 12 12 == 0 then
      if (wordField w 8 4).toNat ≤ 7 then .op (.wrs (wordField w 24 1 == 1) (wordField w 8 4) (wordField w 0 8))
      else .illegal .indexOutOfRange
    else .illegal .mustBeZero
  | 0x8 => needZero (wordField w 1 27 == 0) (.mode (wordField w 0 1 == 1))
  | 0x9 => needZero (wordField w 0 28 == 0) .cli
  | 0xA => needZero (wordField w 0 28 == 0) .sei
  | 0xB => needZero (wordField w 1 27 == 0) (.txen (wordField w 0 1 == 1))
  | 0xC => needZero (wordField w 1 27 == 0) (.rxen (wordField w 0 1 == 1))
  | 0xD =>
    if wordField w 8 20 == 0 then
      if (wordField w 0 8).toNat ≤ 0x18 ∨ 0x20 ≤ (wordField w 0 8).toNat ∧ (wordField w 0 8).toNat ≤ 0x36 then
        .op (.rdr (wordField w 0 8))
      else .illegal .reservedRegister
    else .illegal .mustBeZero
  | 0xE => needZero (wordField w 0 28 == 0) .reset
  | _ => .illegal .reservedOpcode

/-- Agent entitlement (30_encoding.md R137). -/
def entitled (a : Agent) : Instr → Bool
  | .txt => a == .timer
  | .rxe _ _ => a == .edge
  | .reset => a == .main || a == .rst
  | .req _ => a == .main
  | .clr _ => a == .main
  | .sel => a == .main
  | .rdx _ => a == .main
  | .wrs _ _ _ => a == .main
  | .mode _ => a == .main
  | .cli => a == .main
  | .sei => a == .main
  | .txen _ => a == .main
  | .rxen _ => a == .main
  | .rdr _ => a == .main

/-- The decode function of 30_encoding.md R140: operands first, then the agent. -/
def decode (a : Agent) (w : Word) : Decoded :=
  match decodeOperands w with
  | .op i => if entitled a i then .op i else .illegal .agentNotEntitled
  | .illegal why => .illegal why

/-- The word of an operation as a number: the opcode in bits 31:28 and each field at its place in the format
(30_encoding.md R128), every other bit 0. -/
def encodeNat : Instr → Nat
  | .txt => 0x1 * 2 ^ 28
  | .rxe level time => 0x2 * 2 ^ 28 + level.toNat * 2 ^ 27 + time.toNat
  | .req bit => 0x3 * 2 ^ 28 + bit.toNat
  | .clr bit => 0x4 * 2 ^ 28 + bit.toNat
  | .sel => 0x5 * 2 ^ 28
  | .rdx index => 0x6 * 2 ^ 28 + index.toNat
  | .wrs slot index value => 0x7 * 2 ^ 28 + slot.toNat * 2 ^ 24 + index.toNat * 2 ^ 8 + value.toNat
  | .mode value => 0x8 * 2 ^ 28 + value.toNat
  | .cli => 0x9 * 2 ^ 28
  | .sei => 0xA * 2 ^ 28
  | .txen value => 0xB * 2 ^ 28 + value.toNat
  | .rxen value => 0xC * 2 ^ 28 + value.toNat
  | .rdr number => 0xD * 2 ^ 28 + number.toNat
  | .reset => 0xE * 2 ^ 28

/-- The encoder (30_encoding.md R128, R136). -/
def encode (i : Instr) : Word := BitVec.ofNat 32 (encodeNat i)

/-- The opcode of an operation (30_encoding.md R136). -/
def Instr.opcode : Instr → BitVec 4
  | .txt => 0x1
  | .rxe _ _ => 0x2
  | .req _ => 0x3
  | .clr _ => 0x4
  | .sel => 0x5
  | .rdx _ => 0x6
  | .wrs _ _ _ => 0x7
  | .mode _ => 0x8
  | .cli => 0x9
  | .sei => 0xA
  | .txen _ => 0xB
  | .rxen _ => 0xC
  | .rdr _ => 0xD
  | .reset => 0xE

/-- The agent that the opcode map of 30_encoding.md R136 gives a word: TIMER for OP 0x1, EDGE for OP 0x2, else MAIN. -/
def issuingAgent (w : Word) : Agent :=
  match (wordField w 28 4).toNat with
  | 0x1 => .timer
  | 0x2 => .edge
  | _ => .main

/-- The operation word whose low `nbits` bits are those of `n`, the bits above them 0. -/
def tableWord (nbits n : Nat) : Word := BitVec.ofNat 32 (n % 2 ^ nbits)

/-- The operation the decoder reads from the bits `n`, delivered by the agent the opcode map gives the word. -/
def decodeTableWord (nbits n : Nat) : Option Instr :=
  match decode (issuingAgent (tableWord nbits n)) (tableWord nbits n) with
  | .op i => some i
  | .illegal _ => none

end Sys2Proof
end

