-- ==== Sys2Proof/Config.lean ====
section
/-! DEFINITION. The implementation parameters of 00_scope.md R6 and the model's free values.

The model takes the parameters as data (`Params`, held in State's field `cfg`), so that a statement over every state is a
statement over every configuration. What the spec leaves OPEN has no value here: it is an opaque constant. -/
namespace Sys2Proof

/-- `TX_UNDERRUN_POLICY` (00_scope.md R6; 92_eei_decisions.md D8: OPEN). -/
inductive UnderrunPolicy where
  /-- send another preamble bit and ask again (41_tx_encoder.md R177) -/
  | stretch
  /-- send the idle packet of slot 1 (41_tx_encoder.md R179) -/
  | idleSubst
  deriving DecidableEq, Repr, Inhabited

/-- The parameters of 00_scope.md R6 that an implementation chooses. -/
structure Params where
  /-- `PREAMBLE_BITS` -/
  preambleBits : Byte
  /-- `TICK_NS`, nanoseconds per tick; no rule of the model reads it (40_bit_timing.md R161) -/
  tickNs : Nat
  /-- `HALF_SHORT` -/
  halfShort : Ticks
  /-- `HALF_LONG` -/
  halfLong : Ticks
  /-- `RX_THRESHOLD` -/
  rxThreshold : Ticks
  /-- `TX_UNDERRUN_POLICY` -/
  underrunPolicy : UnderrunPolicy
  /-- `EXT_PREAMBLE_IMPL` -/
  extPreambleImpl : Bool
  /-- `IDLE_PACKET` -/
  idlePacket : List Byte
  /-- `RX_TASK_BIT` -/
  rxTaskBit : BitVec 3
  /-- `FORCED_LEVEL` -/
  forcedLevel : Bool
  deriving DecidableEq, Repr

/-- One answer of the message source `GetNextMessage` (41_tx_encoder.md R176): `ready`, and `msg` a slot image or none. -/
structure SourceAnswer where
  ready : Bool
  msg : Option Slot
  deriving DecidableEq, Repr, Inhabited

/-- `RX_PREAMBLE_LIMIT`, fixed at 10 (00_scope.md R6). -/
def rxPreambleLimit : Byte := 10

/-- `MSG_MIN`, fixed at 3 (00_scope.md R6). -/
def msgMin : Byte := 3

/-- `MSG_MAX`, fixed at 6 (00_scope.md R6). -/
def msgMax : Byte := 6

/-- `TX_UNDERRUN_POLICY` of the machine as launched: OPEN, so it has no value (log entry 2). -/
opaque Config.underrunPolicy : UnderrunPolicy

/-- `FORCED_LEVEL` of the machine as launched: OPEN, so it has no value (log entry 2). -/
opaque Config.forcedLevel : Bool

/-- The free draw that `RX_START` takes at the n-th taking of a free value (10_state.md R57; log entry 3). -/
opaque Config.rxStartDraw : Nat → Ticks

/-- The free answer of the message source at the n-th taking of a free value (41_tx_encoder.md R176; log entry 4). -/
opaque Config.sourceAnswer : Nat → SourceAnswer

/-- The parameters at the defaults of 00_scope.md R6, the OPEN ones free. -/
def Params.standard : Params where
  preambleBits := 16
  tickNs := 500
  halfShort := 116
  halfLong := 232
  rxThreshold := 180
  underrunPolicy := Config.underrunPolicy
  extPreambleImpl := false
  idlePacket := [0xFF, 0x00, 0xFF]
  rxTaskBit := 7
  forcedLevel := Config.forcedLevel

end Sys2Proof
end

