-- ==== Sys2Proof/Machine/Cells.lean ====
section
/-! DEFINITION. Reading and writing the six-cell arrays by index, and the checksum over them (20_memory.md R90, R94). -/
namespace Sys2Proof

/-- `A[i]`: the cell of index i, none outside 0..5 (no access wraps into another cell, 20_memory.md R94). -/
def Cells.read (a : Cells) : Nat → Option Byte
  | 0 => some a.c0
  | 1 => some a.c1
  | 2 => some a.c2
  | 3 => some a.c3
  | 4 => some a.c4
  | 5 => some a.c5
  | _ => none

/-- `A[i] <- v`; an index outside 0..5 names no cell and writes none. -/
def Cells.write (a : Cells) (i : Nat) (v : Byte) : Cells :=
  match i with
  | 0 => { a with c0 := v }
  | 1 => { a with c1 := v }
  | 2 => { a with c2 := v }
  | 3 => { a with c3 := v }
  | 4 => { a with c4 := v }
  | 5 => { a with c5 := v }
  | _ => a

/-- Six cells all 0. -/
def Cells.zero : Cells := ⟨0, 0, 0, 0, 0, 0⟩

/-- The first six bytes of a list, padded with 0 (70_reset_and_hazards.md R340, slot 1). -/
def Cells.ofList (bs : List Byte) : Cells :=
  ⟨bs.getD 0 0, bs.getD 1 0, bs.getD 2 0, bs.getD 3 0, bs.getD 4 0, bs.getD 5 0⟩

/-- The cells in index order. -/
def Cells.toList (a : Cells) : List Byte := [a.c0, a.c1, a.c2, a.c3, a.c4, a.c5]

/-- `XOR(A[0..k])` over a list of bytes, 0 when it is empty (00_scope.md R10). -/
def xorBytes (bs : List Byte) : Byte := bs.foldl (· ^^^ ·) 0

/-- The validation of 42_rx_decoder.md R223: 3 to 6 bytes, the last one the XOR of those before it
(30_encoding.md R125). -/
def validPacket (data : Cells) (size : Byte) : Bool :=
  decide (3 ≤ size.toNat) && decide (size.toNat ≤ 6) &&
    data.read (size.toNat - 1) == some (xorBytes (data.toList.take (size.toNat - 1)))

end Sys2Proof
end

