-- ==== Sys2Proof/Machine/State.lean ====
section
/-! DEFINITION. The state of the block as plain data (10_state.md), the reasons a step can stop, and the launch state. -/
namespace Sys2Proof.Machine

/-- `TX_STATE` (10_state.md R40). -/
inductive TxState where
  | preamble
  | extendPreamble
  | separator
  | sendByte
  deriving DecidableEq, Repr

/-- `RX_STATE` (10_state.md R51). -/
inductive RxState where
  | preamble
  | startBit
  | data
  | endBit
  deriving DecidableEq, Repr

/-- The Bit-Cell Timing Value, one of exactly two (30_encoding.md R123): SHORT carries "1" and LONG carries "0". -/
inductive CellTiming where
  | long
  | short
  deriving DecidableEq, Repr

/-- `TX_PHASE` (10_state.md R48). -/
inductive TxPhase where
  | advance
  | hold
  deriving DecidableEq, Repr

/-- One record of the transmit output trace (10_state.md R60). -/
structure HalfCell where
  level : Bool
  ticks : Ticks
  deriving DecidableEq, Repr

/-- The exported message buffer `EXP_DATA[0..5]` and `EXP_SIZE` (10_state.md R62). -/
structure ExportBuffer where
  data : Cells
  size : Byte
  deriving DecidableEq, Repr

/-- An operation word an agent holds ready to deliver (60_exceptions.md R330). -/
structure Delivery where
  agent : Agent
  word : Word
  deriving DecidableEq, Repr

/-- The state of the block: every element of 10_state.md, and four fields of the model's own. -/
@[ext]
structure State where
  /-- the parameters the model takes as arguments (00_scope.md R6); the model's own field, never written (log entry 1) -/
  cfg : Params
  /-- `RDATA` (R32) -/
  rdata : Byte
  /-- `IE` (R33) -/
  ie : Bool
  /-- `TX_EN` (R34) -/
  txEn : Bool
  /-- `RX_EN` (R35) -/
  rxEn : Bool
  /-- `MODE` (R36) -/
  mode : Bool
  /-- `FAULT` (R37) -/
  fault : Byte
  /-- `TX_STATE` (R40) -/
  txState : TxState
  /-- `TX_PRE_CNT` (R41) -/
  txPreCnt : Byte
  /-- `TX_EXT_CNT` (R42) -/
  txExtCnt : Byte
  /-- `TX_BYTE_IDX` (R43) -/
  txByteIdx : Byte
  /-- `TX_SLOT` (R44) -/
  txSlot : Bool
  /-- `TX_MASK` (R45) -/
  txMask : Byte
  /-- `TX_CUR_BYTE` (R46) -/
  txCurByte : Byte
  /-- `TX_LATCH` (R47) -/
  txLatch : CellTiming
  /-- `TX_PHASE` (R48) -/
  txPhase : TxPhase
  /-- `TX_PIN` (R49) -/
  txPin : Bool
  /-- `SLOT[0]` (R50) -/
  slot0 : Slot
  /-- `SLOT[1]` (R50) -/
  slot1 : Slot
  /-- `RX_STATE` (R51) -/
  rxState : RxState
  /-- `RX_ONES` (R52) -/
  rxOnes : Byte
  /-- `RX_BITCNT` (R53) -/
  rxBitCnt : Byte
  /-- `RX_BYTECNT` (R54) -/
  rxByteCnt : Byte
  /-- `RX_ACC` (R55) -/
  rxAcc : Byte
  /-- `RX_SCRATCH` (R56) -/
  rxScratch : Cells
  /-- `RX_START` (R57) -/
  rxStart : Ticks
  /-- `RX_DIAG` (R58) -/
  rxDiag : BitVec 16
  /-- `CLEAN_PIN` (R59) -/
  cleanPin : Bool
  /-- `EXP_DATA` and `EXP_SIZE` (R62) -/
  exported : ExportBuffer
  /-- `FLAGS` (R63) -/
  flags : Byte
  /-- `TXTRACE`, oldest record first (R60) -/
  txTrace : List HalfCell
  /-- `CLEANTRACE`, oldest level first (R61) -/
  cleanTrace : List Bool
  /-- the words the agents hold, in the order the environment brings them; the model's own field (log entry 5) -/
  inbox : List Delivery
  /-- answers of the message source fixed in advance by the environment; the model's own field (log entry 4) -/
  answers : List SourceAnswer
  /-- how many free values have been taken; the model's own field (log entries 3 and 4) -/
  draws : Nat
  deriving DecidableEq, Repr

/-- Why the machine stops. -/
inductive Fault where
  /-- Raised by every operation and every step of a state whose `FAULT` is not 0: the state is stuck, no word from any
  agent has a step, RESET included (60_exceptions.md R303). Safe: the spec gives no step. -/
  | halted
  /-- Raised by TXT in SEPARATOR with `TX_BYTE_IDX` above 5, a state no run reaches (41_tx_encoder.md R181). Safe. -/
  | byteIndexOutOfRange
  deriving DecidableEq, Repr

/-- Why the model gives no step. -/
inductive Refusal where
  /-- Raised by exec's arm of an operation that has no meaning yet; no arm raises it. Safe. -/
  | notModelled (mnemonic : String)
  /-- Raised by every step whose parameters break 40_bit_timing.md R163 or 70_reset_and_hazards.md R343, which say that a
  model refuses such a configuration. Safe. -/
  | illegalConfiguration
  deriving DecidableEq, Repr

/-- The launch state: `ResetState()` with empty traces (70_reset_and_hazards.md R340, R341), at the default parameters.
`RX_START` is free draw 0 (log entry 3), no word is held and no answer is fixed in advance (log entries 4 and 5). -/
def State.reset : State where
  cfg := Params.standard
  rdata := 0x00
  ie := false
  txEn := false
  rxEn := false
  mode := true
  fault := 0x00
  txState := .preamble
  txPreCnt := Params.standard.preambleBits
  txExtCnt := 0
  txByteIdx := 0
  txSlot := false
  txMask := 0x00
  txCurByte := 0x00
  txLatch := .short
  txPhase := .advance
  txPin := false
  slot0 := ⟨Cells.zero, 0, 0⟩
  slot1 := ⟨Cells.ofList Params.standard.idlePacket, BitVec.ofNat 8 Params.standard.idlePacket.length, 0⟩
  rxState := .preamble
  rxOnes := 0
  rxBitCnt := 0
  rxByteCnt := 0
  rxAcc := 0x00
  rxScratch := Cells.zero
  rxStart := Config.rxStartDraw 0
  rxDiag := 0
  cleanPin := false
  exported := ⟨Cells.zero, 0⟩
  flags := 0x00
  txTrace := []
  cleanTrace := []
  inbox := []
  answers := []
  draws := 1

end Sys2Proof.Machine
end

