-- ==== Sys2Proof/Machine/Flags.lean ====
section
/-! DEFINITION. The flag computations: the scheduler's flag byte (30_encoding.md R126) and the STATUS view (10_state.md
R38). The block has no arithmetic flags (10_state.md R64). -/
namespace Sys2Proof.Machine

/-- The operand of format K, the identifier of the task of bit b: `1 << b` in 8 bits (30_encoding.md R126, R130). -/
def taskMask (b : BitVec 3) : Byte := 1#8 <<< b.toNat

/-- `FLAGS | m` (43_scheduler.md R250). -/
def setFlags (flags m : Byte) : Byte := flags ||| m

/-- `FLAGS & ~m` (43_scheduler.md R251). -/
def clearFlags (flags m : Byte) : Byte := flags &&& ~~~m

/-- The identifier of the first set bit from 7 down to 1, or IDLE 0x01 (43_scheduler.md R252). -/
def highestPending (flags : Byte) : Byte :=
  match [7, 6, 5, 4, 3, 2, 1].find? (fun b => flags.getLsbD b) with
  | some b => 1#8 <<< b
  | none => 0x01

/-- A 1-bit register zero-extended to 8 bits (00_scope.md R8). -/
def bitByte (b : Bool) : Byte := (BitVec.ofBool b).setWidth 8

/-- The phase bit: ADVANCE is 0 and HOLD is 1 (10_state.md R48). -/
def TxPhase.code : TxPhase → Bool
  | .advance => false
  | .hold => true

/-- The STATUS view, bit 7 down to bit 0 (10_state.md R38). -/
def State.status (s : State) : Byte :=
  0#1 ++ BitVec.ofBool s.txPhase.code ++ BitVec.ofBool s.cleanPin ++ BitVec.ofBool s.txPin ++ BitVec.ofBool s.mode ++
    BitVec.ofBool s.rxEn ++ BitVec.ofBool s.txEn ++ BitVec.ofBool s.ie

end Sys2Proof.Machine
end

