-- ==== Sys2Proof/Machine/Timing.lean ====
section
/-! DEFINITION. The bit-timing table (40_bit_timing.md) and the legal configurations. -/
namespace Sys2Proof.Machine

/-- The 1-bit code of a Bit-Cell Timing Value, equal to the bit value it carries (30_encoding.md R123): true is 1. -/
def CellTiming.code : CellTiming → Bool
  | .short => true
  | .long => false

/-- The timing value that carries a bit (40_bit_timing.md R160). -/
def CellTiming.ofBit (b : Bool) : CellTiming := if b then .short else .long

/-- `TIMING(code)`: the duration of one half-cell in ticks (40_bit_timing.md R160). -/
def timing (p : Params) : CellTiming → Ticks
  | .short => p.halfShort
  | .long => p.halfLong

/-- The length of a bit, two half-cells of equal duration (40_bit_timing.md R164). -/
def bitTicks (p : Params) (d : CellTiming) : Nat := 2 * (timing p d).toNat

/-- A configuration that 40_bit_timing.md R163, 70_reset_and_hazards.md R343 and the types of 00_scope.md R6 admit.
`RX_TASK_BIT` is a 3-bit value, so it is in 0..7. -/
def legalConfig (p : Params) : Bool :=
  decide (1 ≤ p.preambleBits.toNat) && decide (1 ≤ p.tickNs) &&
    decide (p.halfShort.toNat < p.halfLong.toNat) &&
    decide (p.halfShort.toNat ≤ p.rxThreshold.toNat) && decide (p.rxThreshold.toNat < p.halfLong.toNat) &&
    decide (3 ≤ p.idlePacket.length) && decide (p.idlePacket.length ≤ 6)

end Sys2Proof.Machine
end

