-- ==== Sys2Proof/Machine/Operands.lean ====
section
/-! DEFINITION. The operand forms: cells of a slot, cells of the exported buffer, registers by number. -/
namespace Sys2Proof.Machine

/-- `SLOT[k]` (10_state.md R50): false is slot 0, true slot 1. -/
def State.slot (s : State) (k : Bool) : Slot := if k then s.slot1 else s.slot0

/-- The state with `SLOT[k]` replaced. -/
def State.setSlot (s : State) (k : Bool) (m : Slot) : State := if k then { s with slot1 := m } else { s with slot0 := m }

/-- Cell i of a slot: 0..5 `DATA[i]`, 6 `SIZE`, 7 `PRE`, none above (20_memory.md R90). -/
def slotRead (m : Slot) (i : Nat) : Option Byte :=
  if i = 7 then some m.pre else if i = 6 then some m.size else m.data.read i

/-- Write cell i of a slot (44_host_ops.md R260); none for an index outside the space (20_memory.md R94). -/
def slotWrite (m : Slot) (i : Nat) (v : Byte) : Option Slot :=
  if i ≤ 5 then some { m with data := m.data.write i v }
  else if i = 6 then some { m with size := v }
  else if i = 7 then some { m with pre := v }
  else none

/-- Cell i of the exported buffer: 0..5 `EXP_DATA[i]`, 6 `EXP_SIZE`, none above (20_memory.md R90). -/
def exportRead (e : ExportBuffer) (i : Nat) : Option Byte := if i = 6 then some e.size else e.data.read i

/-- The 2-bit code of `TX_STATE` (10_state.md R40). -/
def TxState.code : TxState → BitVec 2
  | .preamble => 0
  | .extendPreamble => 1
  | .separator => 2
  | .sendByte => 3

/-- The 2-bit code of `RX_STATE` (10_state.md R51). -/
def RxState.code : RxState → BitVec 2
  | .preamble => 0
  | .startBit => 1
  | .data => 2
  | .endBit => 3

/-- `REG[0x00..0x12]`, the single registers of the map (10_state.md R66), zero-extended to 8 bits. -/
def State.readSingle (s : State) : Nat → Option Byte
  | 0x00 => some s.flags
  | 0x01 => some s.status
  | 0x02 => some (s.txState.code.setWidth 8)
  | 0x03 => some s.txPreCnt
  | 0x04 => some s.txExtCnt
  | 0x05 => some s.txByteIdx
  | 0x06 => some (bitByte s.txSlot)
  | 0x07 => some s.txMask
  | 0x08 => some s.txCurByte
  | 0x09 => some (bitByte s.txLatch.code)
  | 0x0A => some (s.rxState.code.setWidth 8)
  | 0x0B => some s.rxOnes
  | 0x0C => some s.rxBitCnt
  | 0x0D => some s.rxByteCnt
  | 0x0E => some s.rxAcc
  | 0x0F => some (s.rxStart.extractLsb' 0 8)
  | 0x10 => some (s.rxStart.extractLsb' 8 8)
  | 0x11 => some (s.rxDiag.extractLsb' 0 8)
  | 0x12 => some (s.rxDiag.extractLsb' 8 8)
  | _ => none

/-- `REG[R]`, the register map of 10_state.md R66; none for a reserved number. -/
def State.readReg (s : State) (number : Byte) : Option Byte :=
  let n := number.toNat
  if n < 0x13 then s.readSingle n
  else if n < 0x19 then s.rxScratch.read (n - 0x13)
  else if n < 0x20 then none
  else if n < 0x28 then slotRead s.slot0 (n - 0x20)
  else if n < 0x30 then slotRead s.slot1 (n - 0x28)
  else exportRead s.exported (n - 0x30)

end Sys2Proof.Machine
end

