-- ==== Sys2Proof/Machine/Ops.lean ====
section
/-! DEFINITION. The named operations every meaning uses: enabling, raising a fault, reset, the message source, the read latch. -/
namespace Sys2Proof.Machine

/-- The outcome of one operation or step. -/
abbrev Result := Host.Outcome State Fault Refusal

/-- The faults of 60_exceptions.md R300. -/
inductive FaultCode where
  | illegalOp
  | txBadSize
  deriving DecidableEq, Repr

/-- The code of a fault (60_exceptions.md R300). -/
def FaultCode.code : FaultCode → Byte
  | .illegalOp => 0x01
  | .txBadSize => 0x02

/-- `raise Fault(code)` (00_scope.md R10, 60_exceptions.md R304): the state before the step with `FAULT` written. There is
no vector, no saved register and no mode change (60_exceptions.md R320), and no return: the state that follows is stuck. -/
def raiseFault (code : FaultCode) (s : State) : Result := .next { s with fault := code.code }

/-- The effect of an operation where it is enabled. With `FAULT` not 0 there is no step and never will be
(60_exceptions.md R303): stuck. Not enabled otherwise, there is no step now (00_scope.md R11): the state stands as it is
and the agent goes on holding its word (log entry 6). -/
def whenEnabled (s : State) (enabled : Bool) (effect : Result) : Result :=
  if s.fault ≠ 0 then .fault .halted else if enabled then effect else .next s

/-- `RDATA <- v` for a read that names a cell; a read of a cell that does not exist raises `ILLEGAL_OP`
(20_memory.md R94). -/
def latchRead (s : State) : Option Byte → Result
  | some v => .next { s with rdata := v }
  | none => raiseFault .illegalOp s

/-- `GetNextMessage()`, one answer taken from the environment: the next one fixed in advance, else a free value
(41_tx_encoder.md R176; log entry 4). -/
def takeAnswer (s : State) : SourceAnswer × State :=
  match s.answers with
  | a :: rest => (a, { s with answers := rest })
  | [] => (Config.sourceAnswer s.draws, { s with draws := s.draws + 1 })

/-- What an answer writes: `SLOT[0] <- m` when it is ready with a message, nothing otherwise (41_tx_encoder.md R176). -/
def acceptAnswer (a : SourceAnswer) (s : State) : State :=
  if a.ready then
    match a.msg with
    | some m => { s with slot0 := m }
    | none => s
  else s

/-- `ResetState()` (70_reset_and_hazards.md R340). `RX_START` takes a new draw, and the traces and the model's own fields
stay (44_host_ops.md R269). -/
def resetState (s : State) : State :=
  { s with
    rdata := 0x00, ie := false, txEn := false, rxEn := false, mode := true, fault := 0x00
    txState := .preamble, txPreCnt := s.cfg.preambleBits, txExtCnt := 0
    txByteIdx := 0, txSlot := false, txMask := 0x00, txCurByte := 0x00
    txLatch := .short, txPhase := .advance, txPin := false
    slot0 := ⟨Cells.zero, 0, 0⟩
    slot1 := ⟨Cells.ofList s.cfg.idlePacket, BitVec.ofNat 8 s.cfg.idlePacket.length, 0⟩
    rxState := .preamble, rxOnes := 0, rxBitCnt := 0, rxByteCnt := 0, rxAcc := 0x00
    rxScratch := Cells.zero, rxStart := Config.rxStartDraw s.draws, rxDiag := 0, cleanPin := false
    exported := ⟨Cells.zero, 0⟩
    flags := 0x00
    draws := s.draws + 1 }

end Sys2Proof.Machine
end

