-- ==== Sys2Proof/Machine/HostOps.lean ====
section
/-! DEFINITION. The host-side operations: WRS, RDX, MODE, TXEN, RXEN, RDR, CLI, SEI and RESET (44_host_ops.md). -/
namespace Sys2Proof.Machine

/-- WRS s, i, v (44_host_ops.md R260); an index outside the slot raises `ILLEGAL_OP` (20_memory.md R94). -/
def execWrs (slot : Bool) (index : BitVec 4) (value : Byte) (s : State) : Result :=
  whenEnabled s true
    (match slotWrite (s.slot slot) index.toNat value with
    | some m => .next (s.setSlot slot m)
    | none => raiseFault .illegalOp s)

/-- RDX i (44_host_ops.md R262). -/
def execRdx (index : BitVec 4) (s : State) : Result :=
  whenEnabled s true (latchRead s (exportRead s.exported index.toNat))

/-- MODE y (44_host_ops.md R263). -/
def execMode (value : Bool) (s : State) : Result := whenEnabled s true (.next { s with mode := value })

/-- TXEN y (44_host_ops.md R264). -/
def execTxen (value : Bool) (s : State) : Result := whenEnabled s true (.next { s with txEn := value })

/-- RXEN y (44_host_ops.md R265). -/
def execRxen (value : Bool) (s : State) : Result := whenEnabled s true (.next { s with rxEn := value })

/-- RDR r (44_host_ops.md R266). -/
def execRdr (number : Byte) (s : State) : Result := whenEnabled s true (latchRead s (s.readReg number))

/-- CLI (44_host_ops.md R267). -/
def execCli (s : State) : Result := whenEnabled s true (.next { s with ie := false })

/-- SEI (44_host_ops.md R268). -/
def execSei (s : State) : Result := whenEnabled s true (.next { s with ie := true })

/-- RESET (44_host_ops.md R269). -/
def execReset (s : State) : Result := whenEnabled s true (.next (resetState s))

end Sys2Proof.Machine
end

