-- ==== Sys2Proof/Machine/Receive.lean ====
section
/-! DEFINITION. The receive decoder: event RXE (42_rx_decoder.md). -/
namespace Sys2Proof.Machine

/-- `CleanOut(L)` (42_rx_decoder.md R213). -/
def cleanOut (level : Bool) (s : State) : State :=
  let out := if s.mode then level else s.cfg.forcedLevel
  { s with cleanPin := out, cleanTrace := s.cleanTrace ++ [out] }

/-- The classification of a high time of `e` ticks (42_rx_decoder.md R215): above the threshold "0", else "1". -/
def classify (p : Params) (e : Ticks) : Bool := decide (e.toNat ≤ p.rxThreshold.toNat)

/-- PREAMBLE (42_rx_decoder.md R217, R218). -/
def rxPreamble (b : Bool) (s : State) : State :=
  if b then
    if rxPreambleLimit < s.rxOnes then
      { s with rxOnes := 0, rxScratch := Cells.zero, rxAcc := 0, rxState := .startBit }
    else { s with rxOnes := s.rxOnes + 1 }
  else { s with rxOnes := 0 }

/-- START_BIT (42_rx_decoder.md R219). -/
def rxStartBit (b : Bool) (s : State) : State :=
  if b then s else { s with rxBitCnt := 0, rxByteCnt := 0, rxState := .data }

/-- The 8th bit of a byte (42_rx_decoder.md R221): a byte beyond the sixth is dropped and the counter saturates at 7. -/
def rxByteDone (s : State) : State :=
  { s with
    rxScratch := if s.rxByteCnt.toNat < 6 then s.rxScratch.write s.rxByteCnt.toNat s.rxAcc else s.rxScratch
    rxByteCnt := BitVec.ofNat 8 (min (s.rxByteCnt.toNat + 1) 7)
    rxBitCnt := 0
    rxState := .endBit }

/-- DATA (42_rx_decoder.md R220, R221). -/
def rxData (b : Bool) (s : State) : State :=
  let s := { s with rxAcc := s.rxAcc <<< 1 ||| bitByte b, rxBitCnt := s.rxBitCnt + 1 }
  if s.rxBitCnt = 8 then rxByteDone s else s

/-- `Export(n)` (42_rx_decoder.md R224). -/
def exportPacket (s : State) : State :=
  { s with exported := ⟨s.rxScratch, s.rxByteCnt⟩, flags := setFlags s.flags (taskMask s.cfg.rxTaskBit) }

/-- END_BIT (42_rx_decoder.md R222, R223). -/
def rxEndBit (b : Bool) (s : State) : State :=
  if b then
    { (if validPacket s.rxScratch s.rxByteCnt then exportPacket s else s) with rxState := .preamble }
  else { s with rxState := .data }

/-- `RxStep(b)` (42_rx_decoder.md R216). -/
def rxStep (b : Bool) (s : State) : State :=
  match s.rxState with
  | .preamble => rxPreamble b s
  | .startBit => rxStartBit b s
  | .data => rxData b s
  | .endBit => rxEndBit b s

/-- A falling edge that changed `RX_STATE` from `old` clears `RX_DIAG` (42_rx_decoder.md R211). -/
def clearDiagOnChange (old : RxState) (s : State) : State :=
  { s with rxDiag := if s.rxState = old then s.rxDiag else 0 }

/-- The falling edge (42_rx_decoder.md R210, R214): measure the time since the last rising edge, classify, advance. -/
def fallingEdge (time : Ticks) (s : State) : State :=
  clearDiagOnChange s.rxState (rxStep (classify s.cfg (time - s.rxStart)) s)

/-- The rising edge (42_rx_decoder.md R212). -/
def risingEdge (time : Ticks) (s : State) : State := { s with rxStart := time }

/-- The effect of an enabled RXE (42_rx_decoder.md R210, R211). -/
def edgeStep (level : Bool) (time : Ticks) (s : State) : State :=
  let s := cleanOut level { s with rxDiag := s.rxDiag + 1 }
  if level then risingEdge time s else fallingEdge time s

/-- RXE is enabled when `IE` and `RX_EN` are 1 (60_exceptions.md R311). -/
def State.rxeEnabled (s : State) : Bool := s.ie && s.rxEn

/-- RXE L, T (42_rx_decoder.md R210). -/
def execRxe (level : Bool) (time : Ticks) (s : State) : Result :=
  whenEnabled s s.rxeEnabled (.next (edgeStep level time s))

end Sys2Proof.Machine
end

