-- ==== Sys2Proof/Machine/Scheduler.lean ====
section
/-! DEFINITION. The priority scheduler: REQ, CLR and SEL (43_scheduler.md). -/
namespace Sys2Proof.Machine

/-- REQ t (43_scheduler.md R250). -/
def execReq (bit : BitVec 3) (s : State) : Result :=
  whenEnabled s true (.next { s with flags := setFlags s.flags (taskMask bit) })

/-- CLR t (43_scheduler.md R251). -/
def execClr (bit : BitVec 3) (s : State) : Result :=
  whenEnabled s true (.next { s with flags := clearFlags s.flags (taskMask bit) })

/-- SEL (43_scheduler.md R252). -/
def execSel (s : State) : Result :=
  whenEnabled s true (.next { s with rdata := highestPending s.flags })

end Sys2Proof.Machine
end

