-- ==== Sys2Proof/Machine/Transmit.lean ====
section
/-! DEFINITION. The transmit encoder: event TXT (41_tx_encoder.md). -/
namespace Sys2Proof.Machine

/-- What one call of `TxStep()` does (41_tx_encoder.md R173). -/
inductive TxOutcome where
  /-- the bit it begins and the state after it -/
  | sends (d : CellTiming) (s : State)
  /-- it raises `TX_BAD_SIZE` (41_tx_encoder.md R185) -/
  | badSize
  /-- it would read a data cell that does not exist; no run reaches it (41_tx_encoder.md R181, log entry 9) -/
  | noCell
  deriving DecidableEq, Repr

/-- A size the encoder sends: 3 to 6 (41_tx_encoder.md R181, R183). -/
def sizeOk (n : Byte) : Bool := decide (msgMin ≤ n) && decide (n ≤ msgMax)

/-- Ready: slot 0 is selected, and a longer preamble is sent first if it is asked for and implemented
(41_tx_encoder.md R178). -/
def txReady (s : State) : State :=
  if s.cfg.extPreambleImpl && decide (s.cfg.preambleBits < s.slot0.pre) then
    { s with txByteIdx := 0, txSlot := false, txExtCnt := s.slot0.pre - s.cfg.preambleBits, txState := .extendPreamble }
  else { s with txByteIdx := 0, txSlot := false, txState := .separator }

/-- Not ready: stretch the preamble (41_tx_encoder.md R177) or send the idle slot (41_tx_encoder.md R179). -/
def txUnderrun (s : State) : State :=
  match s.cfg.underrunPolicy with
  | .stretch => { s with txPreCnt := 1 }
  | .idleSubst => { s with txByteIdx := 0, txSlot := true, txState := .separator }

/-- The branch on the message source's answer (41_tx_encoder.md R175). -/
def txQuery (s : State) : State :=
  let (a, s) := takeAnswer s
  if a.ready then txReady (acceptAnswer a s) else txUnderrun s

/-- PREAMBLE (41_tx_encoder.md R174, R175): the counter is tested after the decrement. -/
def txPreamble (s : State) : TxOutcome :=
  let s := { s with txPreCnt := s.txPreCnt - 1 }
  .sends .short (if s.txPreCnt = 0 then txQuery s else s)

/-- EXTENDPREAMBLE (41_tx_encoder.md R180). -/
def txExtendPreamble (s : State) : TxOutcome :=
  let s := { s with txExtCnt := s.txExtCnt - 1 }
  .sends .short (if s.txExtCnt = 0 then { s with txState := .separator } else s)

/-- SEPARATOR (41_tx_encoder.md R181). -/
def txSeparator (s : State) : TxOutcome :=
  if sizeOk (s.slot s.txSlot).size then
    match (s.slot s.txSlot).data.read s.txByteIdx.toNat with
    | some v => .sends .long { s with txCurByte := v, txMask := 0x80, txState := .sendByte }
    | none => .noCell
  else .badSize

/-- The byte is sent: the next separator (41_tx_encoder.md R183) or the next preamble (41_tx_encoder.md R184). -/
def txByteSent (s : State) : State :=
  if s.txByteIdx.toNat + 1 < (s.slot s.txSlot).size.toNat then
    { s with txByteIdx := s.txByteIdx + 1, txState := .separator }
  else { s with txState := .preamble, txPreCnt := s.cfg.preambleBits }

/-- SENDBYTE (41_tx_encoder.md R182 to R184): the cursor is tested after the shift. -/
def txSendByte (s : State) : TxOutcome :=
  let d := CellTiming.ofBit (s.txCurByte &&& s.txMask != 0)
  let s := { s with txMask := s.txMask >>> 1 }
  if s.txMask = 0 then
    if sizeOk (s.slot s.txSlot).size then .sends d (txByteSent s) else .badSize
  else .sends d s

/-- `TxStep()` (41_tx_encoder.md R173). -/
def txStep (s : State) : TxOutcome :=
  match s.txState with
  | .preamble => txPreamble s
  | .extendPreamble => txExtendPreamble s
  | .separator => txSeparator s
  | .sendByte => txSendByte s

/-- `emit TxHalf(level, ticks)` with `TX_PIN` driven to the level (00_scope.md R10, 10_state.md R60). -/
def driveHalf (level : Bool) (d : CellTiming) (s : State) : State :=
  { s with txPin := level, txTrace := s.txTrace ++ [⟨level, timing s.cfg d⟩] }

/-- The HOLD half-cell (41_tx_encoder.md R171). -/
def holdHalf (s : State) : State := driveHalf true s.txLatch { s with txPhase := .advance }

/-- The ADVANCE half-cell (41_tx_encoder.md R172); a fault discards the whole step (60_exceptions.md R304). -/
def advanceHalf (s : State) : Result :=
  match txStep s with
  | .sends d t => .next (driveHalf false d { t with txLatch := d, txPhase := .hold })
  | .badSize => raiseFault .txBadSize s
  | .noCell => .fault .byteIndexOutOfRange

/-- TXT is enabled when `IE` and `TX_EN` are 1 (60_exceptions.md R311). -/
def State.txtEnabled (s : State) : Bool := s.ie && s.txEn

/-- TXT (41_tx_encoder.md R170). -/
def execTxt (s : State) : Result :=
  whenEnabled s s.txtEnabled
    (match s.txPhase with
    | .hold => .next (holdHalf s)
    | .advance => advanceHalf s)

end Sys2Proof.Machine
end

