-- ==== Sys2Proof/Machine/Dispatch.lean ====
section
/-! DEFINITION. The one dispatch from an operation to its meaning. -/
namespace Sys2Proof.Machine

def exec (i : Instr) (s : State) : Host.Outcome State Fault Refusal :=
  match i with
  | .txt => Sys2Proof.Machine.execTxt s
  | .rxe level time => Sys2Proof.Machine.execRxe level time s
  | .req bit => Sys2Proof.Machine.execReq bit s
  | .clr bit => Sys2Proof.Machine.execClr bit s
  | .sel => Sys2Proof.Machine.execSel s
  | .rdx index => Sys2Proof.Machine.execRdx index s
  | .wrs slot index value => Sys2Proof.Machine.execWrs slot index value s
  | .mode value => Sys2Proof.Machine.execMode value s
  | .cli => Sys2Proof.Machine.execCli s
  | .sei => Sys2Proof.Machine.execSei s
  | .txen value => Sys2Proof.Machine.execTxen value s
  | .rxen value => Sys2Proof.Machine.execRxen value s
  | .rdr number => Sys2Proof.Machine.execRdr number s
  | .reset => Sys2Proof.Machine.execReset s

end Sys2Proof.Machine
end

