-- ==== Sys2Proof/Machine/Deliver.lean ====
section
/-! DEFINITION. Delivering operation words: enabling, waiting, decode and execution, and the one step of the block
(60_exceptions.md R302, R311, R312, R330; 00_scope.md R11). -/
namespace Sys2Proof.Machine

/-- Whether an operation is enabled in a state with `FAULT` 0 (60_exceptions.md R311): only the two ISR events are gated. -/
def State.enables (s : State) : Instr → Bool
  | .txt => s.txtEnabled
  | .rxe _ _ => s.rxeEnabled
  | .req _ => true
  | .clr _ => true
  | .sel => true
  | .rdx _ => true
  | .wrs _ _ _ => true
  | .mode _ => true
  | .cli => true
  | .sei => true
  | .txen _ => true
  | .rxen _ => true
  | .rdr _ => true
  | .reset => true

/-- Whether a held word has to wait: it decodes to an ISR event that is not enabled (60_exceptions.md R312). A word decode
rejects never waits (60_exceptions.md R302). -/
def State.waits (s : State) (d : Delivery) : Bool :=
  match decode d.agent d.word with
  | .op i => !s.enables i
  | .illegal _ => false

/-- Deliver one word: decode comes first (60_exceptions.md R305), and a rejected word raises `ILLEGAL_OP`
(60_exceptions.md R302). -/
def deliver (d : Delivery) (s : State) : Result :=
  match decode d.agent d.word with
  | .op i => exec i s
  | .illegal _ => whenEnabled s true (raiseFault .illegalOp s)

/-- The first word of a list that does not wait, and the words that stay held (60_exceptions.md R312). -/
def firstDeliverable (s : State) : List Delivery → Option (Delivery × List Delivery)
  | [] => none
  | d :: ds =>
    if s.waits d then
      match firstDeliverable s ds with
      | some (e, held) => some (e, d :: held)
      | none => none
    else some (d, ds)

/-- One step of the block: an illegal configuration is refused (40_bit_timing.md R163, 70_reset_and_hazards.md R343), a
faulted state is stuck (60_exceptions.md R303), the first word of the inbox that does not wait is delivered, and a state
with no such word stands as it is (log entry 5). -/
def nextStep (s : State) : Result :=
  if legalConfig s.cfg then
    if s.fault ≠ 0 then .fault .halted
    else
      match firstDeliverable s s.inbox with
      | some (d, held) => deliver d { s with inbox := held }
      | none => .next s
  else .refused .illegalConfiguration

/-- What an ISR word needs to be deliverable: its two enables (60_exceptions.md R311). -/
def enableFor (i : Option Instr) (s : State) : State :=
  match i with
  | some .txt => { s with ie := true, txEn := true }
  | some (.rxe _ _) => { s with ie := true, rxEn := true }
  | _ => s

/-- The state in which the agent of the opcode map holds the word as the very next one to be delivered (log entry 10). -/
def offerWord (s : State) (nbits w : Nat) : State :=
  { enableFor (decodeTableWord nbits w) s with
    inbox := ⟨issuingAgent (tableWord nbits w), tableWord nbits w⟩ :: s.inbox }

end Sys2Proof.Machine
end

