-- ==== Sys2Proof/Machine/Step.lean ====
section
/-! DEFINITION. The step of the block, and the placing of a word where the next step takes it. -/
namespace Sys2Proof.Machine

/-- One step: the block takes the next deliverable operation word (00_scope.md R5, R11). -/
def step : State → Host.Outcome State Fault Refusal := nextStep

/-- The state in which the word is the next to be delivered (log entry 10). -/
def State.withFetchWord (s : State) (nbits w : Nat) : State := offerWord s nbits w

end Sys2Proof.Machine
end

