-- ==== Sys2Proof/Machine/Pseudo.lean ====
section
/-! DEFINITION. The pseudo-operations and their expansions into operations (30_encoding.md R142). -/
namespace Sys2Proof.Machine

/-- `WRS s, 0, b0` ... `WRS s, k, bk`, then `WRS s, SIZE, k+1`. -/
def loadCells (slot : Bool) (bytes : List Byte) : List Instr :=
  bytes.zipIdx.map (fun (b, i) => .wrs slot (BitVec.ofNat 4 i) b) ++ [.wrs slot 6 (BitVec.ofNat 8 bytes.length)]

/-- The expansion of a pseudo-operation; none where its number of bytes is not the one R142 gives. -/
def expandPseudo : Pseudo → Option (List Instr)
  | .loadMsg slot bytes =>
    if 3 ≤ bytes.length ∧ bytes.length ≤ 6 then some (loadCells slot bytes) else none
  | .loadPkt slot bytes =>
    if 3 ≤ bytes.length + 1 ∧ bytes.length + 1 ≤ 6 then some (loadCells slot (bytes ++ [xorBytes bytes])) else none
  | .start => some [.txen true, .rxen true, .sei]
  | .readPkt => some [.cli, .rdx 6, .rdx 0, .rdx 1, .rdx 2, .rdx 3, .rdx 4, .rdx 5, .sei]
  | .ack bit => some [.clr bit]

end Sys2Proof.Machine
end

