-- ==== Sys2Proof/Machine/Waveform.lean ====
section
/-! DEFINITION. The wire: the bits of a message in wire order, the waveform of the transmit trace, and the edges a trace
makes at a decoder's input. -/
namespace Sys2Proof.Machine

/-- The 8 bits of a byte, most significant first (20_memory.md R92). -/
def byteBits (b : Byte) : List Bool := [7, 6, 5, 4, 3, 2, 1, 0].map fun k => b.getLsbD k

/-- The framed bytes of a message: before each byte one "0", then its 8 bits (30_encoding.md R122 item 3). -/
def frameBits : List Byte → List Bool
  | [] => []
  | b :: bs => false :: byteBits b ++ frameBits bs

/-- The bits of one encoder cycle without extension or stretching (30_encoding.md R122). -/
def cycleBits (preamble : Nat) (message : List Byte) : List Bool := List.replicate preamble true ++ frameBits message

/-- The bytes of a message in storage: the cells below its size (30_encoding.md R125). -/
def messageBytes (data : Cells) (size : Byte) : List Byte := data.toList.take size.toNat

/-- The start tick of half-cell k: the sum of the tick counts of the records before it (10_state.md R60). -/
def halfStart (trace : List HalfCell) (k : Nat) : Nat := ((trace.take k).map fun h => h.ticks.toNat).sum

/-- The two half-cells of a bit (30_encoding.md R120, R121): level 0 first, level 1 second, of equal duration. -/
def bitCell (p : Params) (b : Bool) : List HalfCell :=
  [⟨false, timing p (.ofBit b)⟩, ⟨true, timing p (.ofBit b)⟩]

/-- The waveform of a list of bits. -/
def bitsWaveform (p : Params) (bits : List Bool) : List HalfCell := bits.flatMap (bitCell p)

/-- The RXE words of a waveform's level changes, each with the start tick of its half-cell modulo 2^16, given the level
before it and the tick it starts at (42_rx_decoder.md R230). -/
def levelChanges (level : Bool) (start : Nat) : List HalfCell → List Delivery
  | [] => []
  | h :: hs =>
    let rest := levelChanges h.level (start + h.ticks.toNat) hs
    if h.level = level then rest else ⟨.edge, encode (.rxe h.level (BitVec.ofNat 16 start))⟩ :: rest

/-- The two EDGE words of one high pulse that carries a bit: a rising edge at tick `start`, a falling edge one half-cell of
that bit later (42_rx_decoder.md R212, R214). -/
def pulse (p : Params) (start : Ticks) (b : Bool) : List Delivery :=
  [⟨.edge, encode (.rxe true start)⟩, ⟨.edge, encode (.rxe false (start + timing p (.ofBit b)))⟩]

/-- The EDGE words of a sequence of pulses, each with its start tick and its bit. -/
def pulses (p : Params) (bits : List (Ticks × Bool)) : List Delivery := bits.flatMap fun q => pulse p q.1 q.2

/-- `n` TXT words of TIMER. -/
def timerTicks (n : Nat) : List Delivery := List.replicate n ⟨.timer, encode .txt⟩

end Sys2Proof.Machine
end

