-- ==== Sys2Proof/Safety.lean ====
section
/-! DEFINITION. The terms claims are made in: the invariant of the block, executions of the four agents, and the fairness
that the spec assumes of them. -/
namespace Sys2Proof.Machine

/-- The encoder's part of the invariant: the ranges its rules state of the registers (10_state.md R40, R43, R45;
41_tx_encoder.md R174, R180, R181). -/
structure State.TxInv (s : State) : Prop where
  byteIdx : s.txByteIdx.toNat ≤ 5
  preCnt : s.txState = .preamble → s.txPreCnt ≠ 0
  extCnt : s.txState = .extendPreamble → s.txExtCnt ≠ 0
  extImpl : s.txState = .extendPreamble → s.cfg.extPreambleImpl = true
  mask : s.txMask ∈ [0x00#8, 0x01#8, 0x02#8, 0x04#8, 0x08#8, 0x10#8, 0x20#8, 0x40#8, 0x80#8]
  maskSending : s.txState = .sendByte → s.txMask ≠ 0

/-- The decoder's part of the invariant: the ranges its rules state (10_state.md R52, R53, R54; 42_rx_decoder.md R223,
R224). -/
structure State.RxInv (s : State) : Prop where
  ones : s.rxOnes.toNat ≤ 11
  onesOutside : s.rxState ≠ .preamble → s.rxOnes = 0
  bitCnt : s.rxBitCnt.toNat ≤ 7
  byteCnt : s.rxByteCnt.toNat ≤ 7
  scratchFresh : s.rxState = .startBit → s.rxScratch = Cells.zero
  scratchRest : s.rxState = .data ∨ s.rxState = .endBit → (s.rxScratch.toList.drop s.rxByteCnt.toNat).all (· == 0) = true

/-- The exported buffer holds its reset value or a checksum-valid packet of 3 to 6 bytes, with 0 in the cells above it
(42_rx_decoder.md R224, R226). -/
def ExportBuffer.Valid (e : ExportBuffer) : Prop :=
  e = ⟨Cells.zero, 0⟩ ∨
    validPacket e.data e.size = true ∧ (e.data.toList.drop e.size.toNat).all (· == 0) = true

/-- The invariant of the block. Its last part says that `FAULT` holds one of the three codes (60_exceptions.md R300). -/
structure State.Inv (s : State) : Prop where
  config : legalConfig s.cfg = true
  tx : s.TxInv
  rx : s.RxInv
  exported : s.exported.Valid
  fault : s.fault = 0x00 ∨ s.fault = 0x01 ∨ s.fault = 0x02

/-- A finite execution: the words are delivered one after the other, each to the state the one before it left. -/
def runWords : List Delivery → State → Result
  | [], s => .next s
  | d :: ds, s =>
    match deliver d s with
    | .next t => runWords ds t
    | .fault r => .fault r
    | .refused r => .refused r

/-- A word has a step in a state: `FAULT` is 0 and it does not wait (00_scope.md R11). -/
def State.accepts (s : State) (d : Delivery) : Prop := s.fault = 0 ∧ s.waits d = false

/-- An infinite execution: any interleaving of words that have a step (60_exceptions.md R330, 20_memory.md R101). -/
def IsExecution (states : Nat → State) (words : Nat → Delivery) : Prop :=
  ∀ n, (states n).accepts (words n) ∧ deliver (words n) (states n) = .next (states (n + 1))

/-- Weak fairness to TIMER: if TXT stays enabled, a TXT step eventually happens (60_exceptions.md R331). -/
def WeaklyFairToTimer (states : Nat → State) (words : Nat → Delivery) : Prop :=
  ∀ n, (∀ m, n ≤ m → (states m).fault = 0 ∧ (states m).txtEnabled = true) →
    ∃ m, n ≤ m ∧ words m = ⟨.timer, encode .txt⟩

/-- The consecutive level changes of the transmit pin recorded by a trace, as the EDGE agent delivers them in a loopback
from launch (42_rx_decoder.md R230). -/
def State.loopback (s : State) : List Delivery := levelChanges false 0 s.txTrace

end Sys2Proof.Machine
end

