-- ==== Sys2Proof/Certificates/Slice0/Obligations.lean ====
section
/-! DEFINITION. The statements for the provers. A statement `exec i s = .next { s with … }` is the result, the completion
and the frame of its operation at once: every field it does not name is unchanged. -/

open Sys2Proof Sys2Proof.Machine

/-! ## Reset and launch -/

/-- RESET gives every element its reset value, keeps the traces, and gives `RX_START` some draw
(70_reset_and_hazards.md R340; 44_host_ops.md R269). That the draw is counted in `draws` (log entry 3) and that the
parameters, the held words and the source answers stay (log entry 16) is the model's choice. -/
def Obligations.ResetGivesEveryElementItsResetValue : Prop :=
  ∀ s : State, s.fault = 0 → ∃ draw : Ticks, ∃ n : Nat,
    exec .reset s = .next
      { s with
        rdata := 0x00, ie := false, txEn := false, rxEn := false, mode := true, fault := 0x00
        txState := .preamble, txPreCnt := s.cfg.preambleBits, txExtCnt := 0, txByteIdx := 0, txSlot := false
        txMask := 0x00, txCurByte := 0x00, txLatch := .short, txPhase := .advance, txPin := false
        slot0 := ⟨⟨0, 0, 0, 0, 0, 0⟩, 0, 0⟩
        slot1 :=
          ⟨⟨s.cfg.idlePacket.getD 0 0, s.cfg.idlePacket.getD 1 0, s.cfg.idlePacket.getD 2 0, s.cfg.idlePacket.getD 3 0,
            s.cfg.idlePacket.getD 4 0, s.cfg.idlePacket.getD 5 0⟩, BitVec.ofNat 8 s.cfg.idlePacket.length, 0⟩
        rxState := .preamble, rxOnes := 0, rxBitCnt := 0, rxByteCnt := 0, rxAcc := 0x00
        rxScratch := ⟨0, 0, 0, 0, 0, 0⟩, rxStart := draw, rxDiag := 0, cleanPin := false
        exported := ⟨⟨0, 0, 0, 0, 0, 0⟩, 0⟩, flags := 0x00, draws := n }

/-- The launch state is one that RESET produces, with empty traces, both interrupts disabled and both machines in PREAMBLE
(70_reset_and_hazards.md R341). -/
def Obligations.LaunchStateIsAResetState : Prop :=
  (∃ s : State, exec .reset s = .next State.reset) ∧
    State.reset.txTrace = [] ∧ State.reset.cleanTrace = [] ∧
    State.reset.ie = false ∧ State.reset.txEn = false ∧ State.reset.rxEn = false ∧
    State.reset.txState = .preamble ∧ State.reset.rxState = .preamble ∧
    State.reset.txPreCnt = 16 ∧ State.reset.slot1 = ⟨⟨0xFF, 0x00, 0xFF, 0, 0, 0⟩, 3, 0⟩ ∧ State.reset.status = 0x08

/-- The invariant of the block holds at launch. -/
def Obligations.LaunchStateMeetsTheInvariant : Prop := State.reset.Inv

/-- Every step keeps the invariant of the block: the ranges of the encoder's and decoder's registers, the exported buffer
empty or a checksum-valid packet (an inference the spec marks as derived, 42_rx_decoder.md R226), `FAULT` one of its
codes. -/
def Obligations.EveryStepKeepsTheInvariant : Prop :=
  ∀ s t : State, s.Inv → step s = .next t → t.Inv

/-! ## Decode and encode -/

/-- Decoding the word of a well-formed operation, from an agent entitled to it, gives the operation back. -/
def Obligations.DecodeOfEncodeIsTheOperation : Prop :=
  ∀ (a : Agent) (i : Instr), i.WellFormed → entitled a i = true → decode a (encode i) = .op i

/-- A word that decodes to an operation is that operation's word, its operands are legal and its agent is entitled to it:
every accepted word has one meaning and nothing reserved is accepted (30_encoding.md R139, R140). -/
def Obligations.AcceptedWordIsTheWordOfItsOperation : Prop :=
  ∀ (a : Agent) (w : Word) (i : Instr), decode a w = .op i →
    i.WellFormed ∧ entitled a i = true ∧ encode i = w

/-- The words of 30_encoding.md R141 and 95_test_vectors.md V-ENC decode to what they stand for. -/
def Obligations.SampleWordsDecode : Prop :=
  decode .main 0x30000007 = .op (.req 7) ∧ decode .main 0x40000001 = .op (.clr 1) ∧
    decode .edge 0x28001234 = .op (.rxe true 0x1234) ∧ decode .edge 0x200000E8 = .op (.rxe false 232) ∧
    decode .main 0x70000603 = .op (.wrs false 6 3) ∧ decode .main 0x710002FF = .op (.wrs true 2 0xFF) ∧
    decode .main 0xD0000036 = .op (.rdr 0x36) ∧ decode .main 0x80000001 = .op (.mode true) ∧
    decode .main 0x50000000 = .op .sel ∧ decode .timer 0x10000000 = .op .txt ∧
    decode .rst 0xE0000000 = .op .reset ∧ decode .main 0x60000006 = .op (.rdx 6)

/-- Every reserved encoding is illegal from every agent: opcodes 0x0 and 0xF, each format's must-be-zero bits, RDX indices
7 to 15, WRS indices 8 to 15, register numbers outside the map; it raises `ILLEGAL_OP` and never executes
(30_encoding.md R128, R139). -/
def Obligations.ReservedEncodingsAreIllegal : Prop :=
  ∀ (a : Agent) (w : Word) (s : State), s.fault = 0 →
    (w.extractLsb' 28 4 = 0x0 ∨ w.extractLsb' 28 4 = 0xF ∨
      (w.extractLsb' 28 4 ∈ [0x1#4, 0x5#4, 0x9#4, 0xA#4, 0xE#4] ∧ w.extractLsb' 0 28 ≠ 0) ∨
      (w.extractLsb' 28 4 = 0x2 ∧ w.extractLsb' 16 11 ≠ 0) ∨
      (w.extractLsb' 28 4 ∈ [0x3#4, 0x4#4] ∧ w.extractLsb' 3 25 ≠ 0) ∨
      (w.extractLsb' 28 4 = 0x6 ∧ (w.extractLsb' 4 24 ≠ 0 ∨ 7 ≤ (w.extractLsb' 0 4).toNat)) ∨
      (w.extractLsb' 28 4 = 0x7 ∧
        (w.extractLsb' 25 3 ≠ 0 ∨ w.extractLsb' 12 12 ≠ 0 ∨ 8 ≤ (w.extractLsb' 8 4).toNat)) ∨
      (w.extractLsb' 28 4 ∈ [0x8#4, 0xB#4, 0xC#4] ∧ w.extractLsb' 1 27 ≠ 0) ∨
      (w.extractLsb' 28 4 = 0xD ∧
        (w.extractLsb' 8 20 ≠ 0 ∨ 0x19 ≤ (w.extractLsb' 0 8).toNat ∧ (w.extractLsb' 0 8).toNat ≤ 0x1F ∨
          0x37 ≤ (w.extractLsb' 0 8).toNat))) →
    deliver ⟨a, w⟩ s = .next { s with fault := 0x01 }

/-- A TXT word is legal only from TIMER, an RXE word only from EDGE, RESET from MAIN or RST, every other operation only from
MAIN; any other pairing raises `ILLEGAL_OP` (30_encoding.md R137). -/
def Obligations.AgentEntitlement : Prop :=
  ∀ (a : Agent) (i : Instr) (s : State), i.WellFormed → s.fault = 0 →
    deliver ⟨a, encode i⟩ s =
      if (match i with
        | .txt => decide (a = .timer)
        | .rxe _ _ => decide (a = .edge)
        | .reset => decide (a = .main ∨ a = .rst)
        | _ => decide (a = .main)) = true then exec i s
      else .next { s with fault := 0x01 }

/-! ## Delivery, waiting and faults -/

/-- A word that decode rejects raises `ILLEGAL_OP` in any state without a fault, whatever the enables hold, and only
`FAULT` changes (60_exceptions.md R302). -/
def Obligations.RejectedWordRaisesIllegalOp : Prop :=
  ∀ (s : State) (d : Delivery) (why : Reject), s.fault = 0 → decode d.agent d.word = .illegal why →
    deliver d s = .next { s with fault := 0x01 }

/-- Where the next word held decodes to an enabled operation, a step is exec of it, the word taken from the inbox. That the
held words stand in an inbox is the model's choice (log entry 5). -/
def Obligations.StepRunsTheDecodedOperation : Prop :=
  ∀ (s : State) (d : Delivery) (held : List Delivery) (i : Instr),
    legalConfig s.cfg = true → s.fault = 0 → s.inbox = d :: held → decode d.agent d.word = .op i → s.enables i = true →
    step s = exec i { s with inbox := held }

/-- The next step runs a word placed by withFetchWord, whose placing gives an ISR event its two enables and does nothing
else to the state. How a word is placed is the model's choice (log entry 10). -/
def Obligations.StepRunsThePlacedWord : Prop :=
  ∀ (s : State) (nbits w : Nat) (i : Instr),
    legalConfig s.cfg = true → s.fault = 0 → decodeTableWord nbits w = some i →
    step (s.withFetchWord nbits w) = exec i
      (match i with
      | .txt => { s with ie := true, txEn := true }
      | .rxe _ _ => { s with ie := true, rxEn := true }
      | _ => s)

/-- TXT and RXE that are not enabled have no step: the state stands as it is (60_exceptions.md R311; 00_scope.md R11). That
exec answers "no step" with the unchanged state is the model's choice (log entry 6). -/
def Obligations.MaskedEventHasNoEffect : Prop :=
  (∀ s : State, s.fault = 0 → (s.ie = false ∨ s.txEn = false) → exec .txt s = .next s) ∧
    (∀ (s : State) (level : Bool) (time : Ticks), s.fault = 0 → (s.ie = false ∨ s.rxEn = false) →
      exec (.rxe level time) s = .next s)

/-- A step delivers the first held word that does not wait and keeps all the others held (60_exceptions.md R312): an
enabled operation is executed, and a word that decode rejects is never dropped, it raises `ILLEGAL_OP` (60_exceptions.md
R302, 30_encoding.md R139). A step at which every word waits leaves the state as it is. The order of the words in the inbox
is the model's choice (log entry 5). -/
def Obligations.WaitingWordStaysHeld : Prop :=
  (∀ (s : State) (waiting held : List Delivery) (d : Delivery),
    legalConfig s.cfg = true → s.fault = 0 → s.inbox = waiting ++ d :: held →
    (∀ e ∈ waiting, s.waits e = true) →
    (s.waits d = false → step s = deliver d { s with inbox := waiting ++ held }) ∧
    (∀ i, decode d.agent d.word = .op i → s.enables i = true → step s = exec i { s with inbox := waiting ++ held }) ∧
    (∀ why, decode d.agent d.word = .illegal why →
      step s = .next { s with inbox := waiting ++ held, fault := 0x01 })) ∧
  (∀ s : State, legalConfig s.cfg = true → s.fault = 0 → (∀ e ∈ s.inbox, s.waits e = true) → step s = .next s)

/-- Once `FAULT` is not 0 no word from any agent has a step, RESET included (60_exceptions.md R303). That "no step, ever" is
the fault `halted` is the model's choice (log entry 7). -/
def Obligations.FaultedStateHasNoStep : Prop :=
  ∀ s : State, s.fault ≠ 0 →
    (∀ i : Instr, exec i s = .fault .halted) ∧ (∀ d : Delivery, deliver d s = .fault .halted) ∧
      (legalConfig s.cfg = true → step s = .fault .halted)

/-- A step is refused exactly where the parameters break 40_bit_timing.md R163 or 70_reset_and_hazards.md R343. That the
step, not the launch, refuses them is the model's choice (log entry 8). -/
def Obligations.OnlyIllegalConfigurationsAreRefused : Prop :=
  ∀ s : State, (∃ r : Refusal, step s = .refused r) ↔
    ¬ (1 ≤ s.cfg.preambleBits.toNat ∧ 0 < s.cfg.tickNs ∧
      s.cfg.halfShort.toNat < s.cfg.halfLong.toNat ∧
      s.cfg.halfShort.toNat ≤ s.cfg.rxThreshold.toNat ∧ s.cfg.rxThreshold.toNat < s.cfg.halfLong.toNat ∧
      3 ≤ s.cfg.idlePacket.length ∧ s.cfg.idlePacket.length ≤ 6)

/-- In a state that meets the invariant and holds no fault, the next step always answers a state; with no word to deliver it
is the same state, the model's choice (log entry 5). -/
def Obligations.UnfaultedStateAlwaysSteps : Prop :=
  ∀ s : State, s.Inv → s.fault = 0 → ∃ t, step s = .next t

/-- A faulting step makes no write besides `FAULT`, whether an operation or the decoding of a word raises it
(60_exceptions.md R304). -/
def Obligations.FaultingStepWritesOnlyFault : Prop :=
  (∀ (i : Instr) (s t : State), exec i s = .next t → t.fault ≠ 0 → t = { s with fault := t.fault }) ∧
    (∀ (d : Delivery) (s t : State), deliver d s = .next t → t.fault ≠ 0 → t = { s with fault := t.fault })

/-- A decoded operation raises only `TX_BAD_SIZE`, and only as TXT in ADVANCE phase, in SEPARATOR or at byte exhaustion in
SENDBYTE, with the selected slot's `SIZE` outside [3, 6] (60_exceptions.md R301, R305). -/
def Obligations.OnlyTxtRaisesAndOnlyForABadSize : Prop :=
  ∀ (i : Instr) (s t : State), i.WellFormed → exec i s = .next t → t.fault ≠ 0 →
    t.fault = 0x02 ∧ i = .txt ∧ s.ie = true ∧ s.txEn = true ∧ s.txPhase = .advance ∧
      ¬ (3 ≤ (s.slot s.txSlot).size.toNat ∧ (s.slot s.txSlot).size.toNat ≤ 6) ∧
      (s.txState = .separator ∨ s.txState = .sendByte ∧ s.txMask >>> 1 = 0)

/-- A read of a bad size raises `TX_BAD_SIZE` and discards the step (41_tx_encoder.md R185). -/
def Obligations.BadSizeRaisesTxBadSize : Prop :=
  ∀ s : State, s.fault = 0 → s.ie = true → s.txEn = true → s.txPhase = .advance →
    ¬ (3 ≤ (s.slot s.txSlot).size.toNat ∧ (s.slot s.txSlot).size.toNat ≤ 6) →
    (s.txState = .separator ∨ s.txState = .sendByte ∧ s.txMask >>> 1 = 0) →
    exec .txt s = .next { s with fault := 0x02 }

/-- An operation with a reserved operand raises `ILLEGAL_OP` and writes nothing else (20_memory.md R94). Decode never gives
such an operation, so what exec does with it is the model's choice (log entry 14). -/
def Obligations.ReservedOperandRaisesIllegalOp : Prop :=
  ∀ (i : Instr) (s : State), ¬ i.WellFormed → s.fault = 0 → exec i s = .next { s with fault := 0x01 }

/-! ## Bit timing -/

/-- A legal configuration classifies its own half-cells: SHORT as 1, LONG as 0, and the threshold itself as 1
(40_bit_timing.md R163; 42_rx_decoder.md R215). -/
def Obligations.LegalTimingClassifies : Prop :=
  ∀ p : Params, legalConfig p = true →
    classify p (timing p .short) = true ∧ classify p (timing p .long) = false ∧ classify p p.rxThreshold = true ∧
      classify p (p.rxThreshold + 1) = false

/-! ## Transmit encoder -/

/-- HOLD: pin 1, the latched duration again, nothing else (41_tx_encoder.md R171). -/
def Obligations.TxtHoldHalf : Prop :=
  ∀ s : State, s.fault = 0 → s.ie = true → s.txEn = true → s.txPhase = .hold →
    exec .txt s = .next
      { s with
        txPin := true, txPhase := .advance
        txTrace := s.txTrace ++ [⟨true, if s.txLatch = .short then s.cfg.halfShort else s.cfg.halfLong⟩] }

/-- PREAMBLE with the counter not yet at its last bit (41_tx_encoder.md R174, R172). -/
def Obligations.TxtPreambleCounts : Prop :=
  ∀ s : State, s.fault = 0 → s.ie = true → s.txEn = true → s.txPhase = .advance → s.txState = .preamble →
    s.txPreCnt ≠ 1 →
    exec .txt s = .next
      { s with
        txPreCnt := s.txPreCnt - 1, txPin := false, txLatch := .short, txPhase := .hold
        txTrace := s.txTrace ++ [⟨false, s.cfg.halfShort⟩] }

/-- PREAMBLE at its last bit with the message source ready: the message, if it brings one, is in slot 0 in the same step,
slot 0 is selected, and a longer preamble follows only where it is asked for and implemented
(41_tx_encoder.md R175, R176, R178). Where the answer comes from, `answers` or the free value, is the model's choice
(log entry 4). -/
def Obligations.TxtReadyStartsTheMessage : Prop :=
  ∀ s : State, s.fault = 0 → s.ie = true → s.txEn = true → s.txPhase = .advance → s.txState = .preamble →
    s.txPreCnt = 1 → (s.answers.headD (Config.sourceAnswer s.draws)).ready = true →
    let m := (s.answers.headD (Config.sourceAnswer s.draws)).msg.getD s.slot0
    let longer := s.cfg.extPreambleImpl = true ∧ s.cfg.preambleBits.toNat < m.pre.toNat
    exec .txt s = .next
      { s with
        slot0 := m, txPreCnt := 0, txByteIdx := 0, txSlot := false
        txExtCnt := if longer then m.pre - s.cfg.preambleBits else s.txExtCnt
        txState := if longer then .extendPreamble else .separator
        txPin := false, txLatch := .short, txPhase := .hold, txTrace := s.txTrace ++ [⟨false, s.cfg.halfShort⟩]
        answers := s.answers.tail, draws := if s.answers = [] then s.draws + 1 else s.draws }

/-- PREAMBLE at its last bit with the message source not ready: STRETCH sends one more bit and asks again, IDLE_SUBST sends
slot 1; no slot is written (41_tx_encoder.md R175, R177, R179). Where the answer comes from is the model's choice (log
entry 4). -/
def Obligations.TxtUnderrunFollowsThePolicy : Prop :=
  ∀ s : State, s.fault = 0 → s.ie = true → s.txEn = true → s.txPhase = .advance → s.txState = .preamble →
    s.txPreCnt = 1 → (s.answers.headD (Config.sourceAnswer s.draws)).ready = false →
    (s.cfg.underrunPolicy = .stretch →
      exec .txt s = .next
        { s with
          txPreCnt := 1, txPin := false, txLatch := .short, txPhase := .hold
          txTrace := s.txTrace ++ [⟨false, s.cfg.halfShort⟩]
          answers := s.answers.tail, draws := if s.answers = [] then s.draws + 1 else s.draws }) ∧
    (s.cfg.underrunPolicy = .idleSubst →
      exec .txt s = .next
        { s with
          txPreCnt := 0, txByteIdx := 0, txSlot := true, txState := .separator
          txPin := false, txLatch := .short, txPhase := .hold, txTrace := s.txTrace ++ [⟨false, s.cfg.halfShort⟩]
          answers := s.answers.tail, draws := if s.answers = [] then s.draws + 1 else s.draws })

/-- EXTENDPREAMBLE: one more "1", and SEPARATOR when the extra counter reaches 0 (41_tx_encoder.md R180). -/
def Obligations.TxtExtendPreamble : Prop :=
  ∀ s : State, s.fault = 0 → s.ie = true → s.txEn = true → s.txPhase = .advance → s.txState = .extendPreamble →
    exec .txt s = .next
      { s with
        txExtCnt := s.txExtCnt - 1, txState := if s.txExtCnt = 1 then .separator else .extendPreamble
        txPin := false, txLatch := .short, txPhase := .hold, txTrace := s.txTrace ++ [⟨false, s.cfg.halfShort⟩] }

/-- SEPARATOR: a "0", and the byte of the selected slot is loaded with the cursor at its top bit
(41_tx_encoder.md R181). -/
def Obligations.TxtSeparator : Prop :=
  ∀ (s : State) (v : Byte), s.fault = 0 → s.ie = true → s.txEn = true → s.txPhase = .advance →
    s.txState = .separator → 3 ≤ (s.slot s.txSlot).size.toNat → (s.slot s.txSlot).size.toNat ≤ 6 →
    (s.slot s.txSlot).data.toList[s.txByteIdx.toNat]? = some v →
    exec .txt s = .next
      { s with
        txCurByte := v, txMask := 0x80, txState := .sendByte
        txPin := false, txLatch := .long, txPhase := .hold, txTrace := s.txTrace ++ [⟨false, s.cfg.halfLong⟩] }

/-- SENDBYTE before the last bit of the byte: the bit under the cursor, and the cursor one to the right
(41_tx_encoder.md R182). -/
def Obligations.TxtSendsABit : Prop :=
  ∀ s : State, s.fault = 0 → s.ie = true → s.txEn = true → s.txPhase = .advance → s.txState = .sendByte →
    s.txMask >>> 1 ≠ 0 →
    exec .txt s = .next
      { s with
        txMask := s.txMask >>> 1
        txPin := false, txLatch := if s.txCurByte &&& s.txMask ≠ 0 then .short else .long, txPhase := .hold
        txTrace := s.txTrace ++ [⟨false, if s.txCurByte &&& s.txMask ≠ 0 then s.cfg.halfShort else s.cfg.halfLong⟩] }

/-- SENDBYTE at the last bit of the byte: the next separator while bytes follow, else PREAMBLE with the counter reloaded
(41_tx_encoder.md R182, R183, R184). -/
def Obligations.TxtByteExhausted : Prop :=
  ∀ s : State, s.fault = 0 → s.ie = true → s.txEn = true → s.txPhase = .advance → s.txState = .sendByte →
    s.txMask >>> 1 = 0 → 3 ≤ (s.slot s.txSlot).size.toNat → (s.slot s.txSlot).size.toNat ≤ 6 →
    let more := s.txByteIdx.toNat + 1 < (s.slot s.txSlot).size.toNat
    exec .txt s = .next
      { s with
        txMask := 0
        txByteIdx := if more then s.txByteIdx + 1 else s.txByteIdx
        txState := if more then .separator else .preamble
        txPreCnt := if more then s.txPreCnt else s.cfg.preambleBits
        txPin := false, txLatch := if s.txCurByte &&& s.txMask ≠ 0 then .short else .long, txPhase := .hold
        txTrace := s.txTrace ++ [⟨false, if s.txCurByte &&& s.txMask ≠ 0 then s.cfg.halfShort else s.cfg.halfLong⟩] }

/-- TXT writes encoder registers, slot 0, the trace and `FAULT` only, and the model's own record of the message source (log
entry 4; 41_tx_encoder.md R188, which the spec marks as derived; 60_exceptions.md R321). -/
def Obligations.TxtLeavesEverythingElse : Prop :=
  ∀ s t : State, exec .txt s = .next t →
    t = { s with
      txState := t.txState, txPreCnt := t.txPreCnt, txExtCnt := t.txExtCnt, txByteIdx := t.txByteIdx, txSlot := t.txSlot
      txMask := t.txMask, txCurByte := t.txCurByte, txLatch := t.txLatch, txPhase := t.txPhase, txPin := t.txPin
      slot0 := t.slot0, txTrace := t.txTrace, fault := t.fault, answers := t.answers, draws := t.draws }

/-- Every TXT step that raises no fault toggles the phase and appends one record: the level it drove the pin to, and one of
the two legal durations, that of the latch it leaves (10_state.md R48, R60; 30_encoding.md R123). -/
def Obligations.TxtAppendsOneRecord : Prop :=
  ∀ s t : State, s.ie = true → s.txEn = true → exec .txt s = .next t → t.fault = 0 →
    t.txPhase ≠ s.txPhase ∧ (t.txPin = true ↔ s.txPhase = .hold) ∧
      t.txTrace = s.txTrace ++ [⟨t.txPin, if t.txLatch = .short then s.cfg.halfShort else s.cfg.halfLong⟩]

/-- Every bit is two consecutive half-cells of equal duration, level 0 then level 1 (30_encoding.md R120, R121). -/
def Obligations.BitIsTwoEqualHalfCells : Prop :=
  ∀ s t : State, s.ie = true → s.txEn = true → s.txPhase = .advance →
    runWords (timerTicks 2) s = .next t →
    ∃ b : Bool, t.txTrace = s.txTrace ++ bitCell s.cfg b ∧ t.txPhase = .advance

/-- From the first separator of a slot of legal size, 18 TXT steps a byte send the slot's message framed, and return to
PREAMBLE with the counter reloaded (30_encoding.md R122; 41_tx_encoder.md R181 to R184). -/
def Obligations.EncoderSendsTheFramedMessage : Prop :=
  ∀ s : State, s.fault = 0 → s.ie = true → s.txEn = true → s.txPhase = .advance → s.txState = .separator →
    s.txByteIdx = 0 → 3 ≤ (s.slot s.txSlot).size.toNat → (s.slot s.txSlot).size.toNat ≤ 6 →
    ∃ t, runWords (timerTicks (18 * (s.slot s.txSlot).size.toNat)) s = .next t ∧
      t.txTrace = s.txTrace ++
        bitsWaveform s.cfg (frameBits (messageBytes (s.slot s.txSlot).data (s.slot s.txSlot).size)) ∧
      t.txState = .preamble ∧ t.txPreCnt = s.cfg.preambleBits ∧ t.txPhase = .advance ∧ t.txSlot = s.txSlot ∧
      t.fault = 0 ∧ t.slot0 = s.slot0 ∧ t.slot1 = s.slot1

/-- One encoder cycle: from the start of a preamble, with a message source that answers ready with a message of legal size
and no extension asked for, `2 * (PREAMBLE_BITS + 9 * size)` TXT steps send the preamble and the framed message
(30_encoding.md R122, which marks that count as derived). That the answer is fixed in advance, and that the rest of `answers`
is left, is the model's choice (log entry 4). -/
def Obligations.EncoderCycleSendsTheMessage : Prop :=
  ∀ (s : State) (m : Slot) (rest : List SourceAnswer),
    s.fault = 0 → s.ie = true → s.txEn = true → s.txPhase = .advance → s.txState = .preamble →
    s.txPreCnt = s.cfg.preambleBits → 1 ≤ s.cfg.preambleBits.toNat → s.answers = ⟨true, some m⟩ :: rest →
    3 ≤ m.size.toNat → m.size.toNat ≤ 6 → (s.cfg.extPreambleImpl = false ∨ m.pre.toNat ≤ s.cfg.preambleBits.toNat) →
    ∃ t, runWords (timerTicks (2 * (s.cfg.preambleBits.toNat + 9 * m.size.toNat))) s = .next t ∧
      t.txTrace = s.txTrace ++
        bitsWaveform s.cfg (cycleBits s.cfg.preambleBits.toNat (messageBytes m.data m.size)) ∧
      t.txState = .preamble ∧ t.txPreCnt = s.cfg.preambleBits ∧ t.txPhase = .advance ∧ t.answers = rest ∧
      t.slot0 = m ∧ t.fault = 0

/-! ## Receive decoder -/

/-- A rising edge captures the timestamp, counts the edge and drives the clean pin; the state machine is not touched
(42_rx_decoder.md R211, R212, R213). -/
def Obligations.RxeRisingEdge : Prop :=
  ∀ (s : State) (time : Ticks), s.fault = 0 → s.ie = true → s.rxEn = true →
    let out := if s.mode then true else s.cfg.forcedLevel
    exec (.rxe true time) s = .next
      { s with rxStart := time, rxDiag := s.rxDiag + 1, cleanPin := out, cleanTrace := s.cleanTrace ++ [out] }

/-- A falling edge in PREAMBLE: a "0" clears the count of ones, a "1" counts, and the twelfth moves to START_BIT with the
scratch buffer cleared (42_rx_decoder.md R214, R215, R217, R218). -/
def Obligations.RxeFallingInPreamble : Prop :=
  ∀ (s : State) (time : Ticks), s.fault = 0 → s.ie = true → s.rxEn = true → s.rxState = .preamble →
    let e := (time.toNat + 2 ^ 16 - s.rxStart.toNat) % 2 ^ 16
    let out := if s.mode then false else s.cfg.forcedLevel
    (s.cfg.rxThreshold.toNat < e →
      exec (.rxe false time) s = .next
        { s with
          rxOnes := 0, rxDiag := s.rxDiag + 1, cleanPin := out, cleanTrace := s.cleanTrace ++ [out] }) ∧
    (e ≤ s.cfg.rxThreshold.toNat → s.rxOnes.toNat ≤ 10 →
      exec (.rxe false time) s = .next
        { s with
          rxOnes := s.rxOnes + 1, rxDiag := s.rxDiag + 1, cleanPin := out, cleanTrace := s.cleanTrace ++ [out] }) ∧
    (e ≤ s.cfg.rxThreshold.toNat → 10 < s.rxOnes.toNat →
      exec (.rxe false time) s = .next
        { s with
          rxOnes := 0, rxScratch := ⟨0, 0, 0, 0, 0, 0⟩, rxAcc := 0, rxState := .startBit
          rxDiag := 0, cleanPin := out, cleanTrace := s.cleanTrace ++ [out] })

/-- A falling edge in START_BIT: a "0" starts the data, a "1" stays (42_rx_decoder.md R219). -/
def Obligations.RxeFallingInStartBit : Prop :=
  ∀ (s : State) (time : Ticks), s.fault = 0 → s.ie = true → s.rxEn = true → s.rxState = .startBit →
    let e := (time.toNat + 2 ^ 16 - s.rxStart.toNat) % 2 ^ 16
    let out := if s.mode then false else s.cfg.forcedLevel
    (s.cfg.rxThreshold.toNat < e →
      exec (.rxe false time) s = .next
        { s with
          rxBitCnt := 0, rxByteCnt := 0, rxState := .data
          rxDiag := 0, cleanPin := out, cleanTrace := s.cleanTrace ++ [out] }) ∧
    (e ≤ s.cfg.rxThreshold.toNat →
      exec (.rxe false time) s = .next
        { s with rxDiag := s.rxDiag + 1, cleanPin := out, cleanTrace := s.cleanTrace ++ [out] })

/-- A falling edge in DATA shifts the bit in; the 8th bit stores the byte if it is one of the first six, counts it
(saturating at 7) and moves to END_BIT (42_rx_decoder.md R220, R221). -/
def Obligations.RxeFallingInData : Prop :=
  ∀ (s : State) (time : Ticks), s.fault = 0 → s.ie = true → s.rxEn = true → s.rxState = .data →
    let e := (time.toNat + 2 ^ 16 - s.rxStart.toNat) % 2 ^ 16
    let bit := if s.cfg.rxThreshold.toNat < e then 0 else 1
    let acc := BitVec.ofNat 8 (2 * s.rxAcc.toNat + bit)
    let out := if s.mode then false else s.cfg.forcedLevel
    (s.rxBitCnt ≠ 7 →
      exec (.rxe false time) s = .next
        { s with
          rxAcc := acc, rxBitCnt := s.rxBitCnt + 1
          rxDiag := s.rxDiag + 1, cleanPin := out, cleanTrace := s.cleanTrace ++ [out] }) ∧
    (s.rxBitCnt = 7 →
      ∃ t, exec (.rxe false time) s = .next t ∧
        t = { s with
          rxAcc := acc, rxBitCnt := 0, rxScratch := t.rxScratch, rxByteCnt := t.rxByteCnt, rxState := .endBit
          rxDiag := 0, cleanPin := out, cleanTrace := s.cleanTrace ++ [out] } ∧
        t.rxScratch.toList =
          (if s.rxByteCnt.toNat < 6 then s.rxScratch.toList.set s.rxByteCnt.toNat acc else s.rxScratch.toList) ∧
        t.rxByteCnt.toNat = min (s.rxByteCnt.toNat + 1) 7)

/-- A falling edge in END_BIT: a "0" goes on with the next byte; a "1" ends the packet, which is exported, all cells, the
size and the task flag in the one step, if it is valid, and is dropped silently if not
(42_rx_decoder.md R222, R223, R224, R225). -/
def Obligations.RxeFallingInEndBit : Prop :=
  ∀ (s : State) (time : Ticks), s.fault = 0 → s.ie = true → s.rxEn = true → s.rxState = .endBit →
    let e := (time.toNat + 2 ^ 16 - s.rxStart.toNat) % 2 ^ 16
    let out := if s.mode then false else s.cfg.forcedLevel
    (s.cfg.rxThreshold.toNat < e →
      exec (.rxe false time) s = .next
        { s with rxState := .data, rxDiag := 0, cleanPin := out, cleanTrace := s.cleanTrace ++ [out] }) ∧
    (e ≤ s.cfg.rxThreshold.toNat → validPacket s.rxScratch s.rxByteCnt = true →
      exec (.rxe false time) s = .next
        { s with
          exported := ⟨s.rxScratch, s.rxByteCnt⟩, flags := s.flags ||| BitVec.twoPow 8 s.cfg.rxTaskBit.toNat
          rxState := .preamble, rxDiag := 0, cleanPin := out, cleanTrace := s.cleanTrace ++ [out] }) ∧
    (e ≤ s.cfg.rxThreshold.toNat → validPacket s.rxScratch s.rxByteCnt = false →
      exec (.rxe false time) s = .next
        { s with rxState := .preamble, rxDiag := 0, cleanPin := out, cleanTrace := s.cleanTrace ++ [out] })

/-- The packet test is the checksum law: 3 to 6 bytes, the last one the XOR of those before it (30_encoding.md R125). -/
def Obligations.ValidPacketIsTheChecksumLaw : Prop :=
  ∀ (data : Cells) (size : Byte), validPacket data size = true ↔
    3 ≤ size.toNat ∧ size.toNat ≤ 6 ∧
      ∃ (body : List Byte) (check : Byte), messageBytes data size = body ++ [check] ∧ check = body.foldl (· ^^^ ·) 0

/-- RXE writes decoder registers, the clean output and its trace, the exported buffer, and sets bits of `FLAGS`; nothing
else (42_rx_decoder.md R229, which the spec marks as derived; 60_exceptions.md R321). -/
def Obligations.RxeLeavesEverythingElse : Prop :=
  ∀ (level : Bool) (time : Ticks) (s t : State), exec (.rxe level time) s = .next t →
    t = { s with
      rxState := t.rxState, rxOnes := t.rxOnes, rxBitCnt := t.rxBitCnt, rxByteCnt := t.rxByteCnt, rxAcc := t.rxAcc
      rxScratch := t.rxScratch, rxStart := t.rxStart, rxDiag := t.rxDiag, cleanPin := t.cleanPin
      cleanTrace := t.cleanTrace, exported := t.exported, flags := t.flags } ∧
    t.flags &&& s.flags = s.flags

/-- The diagnostic counter counts every edge and reads 0 after an edge that changes the decoder's state
(42_rx_decoder.md R211). -/
def Obligations.DiagnosticCounterCountsEdges : Prop :=
  ∀ (level : Bool) (time : Ticks) (s t : State), s.ie = true → s.rxEn = true → exec (.rxe level time) s = .next t →
    t.rxDiag.toNat = if t.rxState = s.rxState then (s.rxDiag.toNat + 1) % 2 ^ 16 else 0

/-- The mode never changes what the decoder decodes: two states that differ only in the mode and the clean output stay so
after the same edge (42_rx_decoder.md R213). -/
def Obligations.ModeNeverChangesDecoding : Prop :=
  ∀ (level mode pin : Bool) (trace : List Bool) (time : Ticks) (s t : State), exec (.rxe level time) s = .next t →
    ∃ pin' trace', exec (.rxe level time) { s with mode := mode, cleanPin := pin, cleanTrace := trace } =
      .next { t with mode := mode, cleanPin := pin', cleanTrace := trace' }

/-- The exported buffer changes only by RESET or by an edge that exports: then it is a valid packet, all of it and the task
flag written in that one step (20_memory.md R91, R96; 42_rx_decoder.md R226). -/
def Obligations.OnlyAValidPacketIsExported : Prop :=
  ∀ (i : Instr) (s t : State), exec i s = .next t → t.exported ≠ s.exported → i ≠ .reset →
    (∃ time, i = .rxe false time) ∧ validPacket t.exported.data t.exported.size = true ∧
      t.exported = ⟨s.rxScratch, s.rxByteCnt⟩ ∧ t.flags.getLsbD s.cfg.rxTaskBit.toNat = true

/-- The decoder exports what it is sent: from PREAMBLE with no ones counted, at least 12 "1" pulses, the framed bytes of a
valid packet and a "1" stop pulse, at any start ticks, export that packet with 0 in the cells above it, and leave the
decoder in PREAMBLE with no ones counted (30_encoding.md R124; 42_rx_decoder.md R218 to R224). -/
def Obligations.DecoderExportsTheFramedPacket : Prop :=
  ∀ (s : State) (data : Cells) (size : Byte) (ones : Nat) (bits : List (Ticks × Bool)),
    s.fault = 0 → s.ie = true → s.rxEn = true → legalConfig s.cfg = true → s.rxState = .preamble → s.rxOnes = 0 →
    validPacket data size = true → 12 ≤ ones →
    bits.map Prod.snd = List.replicate ones true ++ frameBits (messageBytes data size) ++ [true] →
    ∃ t, runWords (pulses s.cfg bits) s = .next t ∧
      t.exported = ⟨Cells.ofList (messageBytes data size), size⟩ ∧
      t.flags = s.flags ||| BitVec.twoPow 8 s.cfg.rxTaskBit.toNat ∧ t.rxState = .preamble ∧ t.rxOnes = 0

/-- The round trip of the first message: from a state with both machines at the start of a preamble, the transmit trace of
a valid message that the source supplies, up to the falling edge that begins the bit after its stop bit, delivered edge by
edge, exports that message (42_rx_decoder.md R230, its case of a message that directly follows reset, which the spec marks
as derived). That the source's answer is fixed in advance in `answers` is the model's choice (log entry 4). -/
def Obligations.RoundTripOfTheFirstMessage : Prop :=
  ∀ (s : State) (m : Slot) (rest : List SourceAnswer),
    s.fault = 0 → legalConfig s.cfg = true → s.ie = true → s.txEn = true → s.rxEn = true →
    s.txPhase = .advance → s.txState = .preamble → s.txPreCnt = s.cfg.preambleBits → s.txPin = false →
    s.txTrace = [] → s.rxState = .preamble → s.rxOnes = 0 → 12 ≤ s.cfg.preambleBits.toNat →
    s.answers = ⟨true, some m⟩ :: rest → validPacket m.data m.size = true →
    (s.cfg.extPreambleImpl = false ∨ m.pre.toNat ≤ s.cfg.preambleBits.toNat) →
    ∃ t u, runWords (timerTicks (2 * (s.cfg.preambleBits.toNat + 9 * m.size.toNat) + 3)) s = .next t ∧
      runWords t.loopback t = .next u ∧
      u.exported = ⟨Cells.ofList (messageBytes m.data m.size), m.size⟩ ∧
      u.flags = s.flags ||| BitVec.twoPow 8 s.cfg.rxTaskBit.toNat

/-! ## Scheduler -/

/-- REQ sets its task's bit and leaves every other bit and everything else (43_scheduler.md R250), and a second request
changes nothing (R253, which the spec marks as derived: "REQ t applied twice ... leaves FLAGS as the first left it"). -/
def Obligations.ReqSetsOneFlag : Prop :=
  ∀ (s : State) (b : BitVec 3), s.fault = 0 →
    ∃ f : Byte, exec (.req b) s = .next { s with flags := f } ∧
      (∀ k, k < 8 → f.getLsbD k = (decide (k = b.toNat) || s.flags.getLsbD k)) ∧
      exec (.req b) { s with flags := f } = .next { s with flags := f }

/-- CLR clears its task's bit and leaves every other bit and everything else (43_scheduler.md R251). -/
def Obligations.ClrClearsOneFlag : Prop :=
  ∀ (s : State) (b : BitVec 3), s.fault = 0 →
    ∃ f : Byte, exec (.clr b) s = .next { s with flags := f } ∧
      ∀ k, k < 8 → f.getLsbD k = (!decide (k = b.toNat) && s.flags.getLsbD k)

/-- SEL returns the identifier of the highest set bit among 7 to 1, or IDLE, and changes only `RDATA`
(43_scheduler.md R252). -/
def Obligations.SelReturnsTheHighestPending : Prop :=
  ∀ s : State, s.fault = 0 →
    ∃ v : Byte, exec .sel s = .next { s with rdata := v } ∧
      ((∃ b, 1 ≤ b ∧ b ≤ 7 ∧ s.flags.getLsbD b = true ∧ (∀ k, b < k → k ≤ 7 → s.flags.getLsbD k = false) ∧
          v = BitVec.twoPow 8 b) ∨
        ((∀ k, 1 ≤ k → k ≤ 7 → s.flags.getLsbD k = false) ∧ v = 0x01))

/-! ## Host operations -/

/-- WRS writes its cell of its slot and leaves every other cell, the other slot and everything else
(44_host_ops.md R260). -/
def Obligations.WrsWritesOneCell : Prop :=
  ∀ (s : State) (k : Bool) (i : BitVec 4) (v : Byte), s.fault = 0 → i.toNat ≤ 7 →
    ∃ t, exec (.wrs k i v) s = .next t ∧ t = { s with slot0 := t.slot0, slot1 := t.slot1 } ∧
      t.slot (!k) = s.slot (!k) ∧
      (t.slot k).data.toList =
        (if i.toNat ≤ 5 then (s.slot k).data.toList.set i.toNat v else (s.slot k).data.toList) ∧
      (t.slot k).size = (if i.toNat = 6 then v else (s.slot k).size) ∧
      (t.slot k).pre = (if i.toNat = 7 then v else (s.slot k).pre)

/-- RDX latches the cell of the exported buffer it names and changes nothing else (44_host_ops.md R262). -/
def Obligations.RdxReadsTheExportedBuffer : Prop :=
  ∀ (s : State) (i : BitVec 4) (v : Byte), s.fault = 0 →
    (s.exported.data.toList ++ [s.exported.size])[i.toNat]? = some v →
    exec (.rdx i) s = .next { s with rdata := v }

/-- RDR latches the register of the map 10_state.md R66 and changes nothing else (44_host_ops.md R266). -/
def Obligations.RdrReadsTheRegisterMap : Prop :=
  ∀ s : State, s.fault = 0 →
    ∀ p ∈ ([(0x00, s.flags), (0x01, s.status), (0x02, s.txState.code.setWidth 8), (0x03, s.txPreCnt), (0x04, s.txExtCnt),
        (0x05, s.txByteIdx), (0x06, if s.txSlot then 1 else 0), (0x07, s.txMask), (0x08, s.txCurByte),
        (0x09, if s.txLatch = .short then 1 else 0), (0x0A, s.rxState.code.setWidth 8), (0x0B, s.rxOnes),
        (0x0C, s.rxBitCnt), (0x0D, s.rxByteCnt), (0x0E, s.rxAcc),
        (0x0F, BitVec.ofNat 8 (s.rxStart.toNat % 256)), (0x10, BitVec.ofNat 8 (s.rxStart.toNat / 256)),
        (0x11, BitVec.ofNat 8 (s.rxDiag.toNat % 256)), (0x12, BitVec.ofNat 8 (s.rxDiag.toNat / 256)),
        (0x13, s.rxScratch.c0), (0x14, s.rxScratch.c1), (0x15, s.rxScratch.c2), (0x16, s.rxScratch.c3),
        (0x17, s.rxScratch.c4), (0x18, s.rxScratch.c5),
        (0x20, s.slot0.data.c0), (0x21, s.slot0.data.c1), (0x22, s.slot0.data.c2), (0x23, s.slot0.data.c3),
        (0x24, s.slot0.data.c4), (0x25, s.slot0.data.c5), (0x26, s.slot0.size), (0x27, s.slot0.pre),
        (0x28, s.slot1.data.c0), (0x29, s.slot1.data.c1), (0x2A, s.slot1.data.c2), (0x2B, s.slot1.data.c3),
        (0x2C, s.slot1.data.c4), (0x2D, s.slot1.data.c5), (0x2E, s.slot1.size), (0x2F, s.slot1.pre),
        (0x30, s.exported.data.c0), (0x31, s.exported.data.c1), (0x32, s.exported.data.c2), (0x33, s.exported.data.c3),
        (0x34, s.exported.data.c4), (0x35, s.exported.data.c5), (0x36, s.exported.size)] : List (Byte × Byte)),
      exec (.rdr p.1) s = .next { s with rdata := p.2 }

/-- The fields of STATUS as RDR 0x01 reads it (10_state.md R38), and the codes of the two state registers
(10_state.md R40, R51). -/
def Obligations.StatusAndStateCodes : Prop :=
  (∀ s : State, s.fault = 0 →
    ∃ v : Byte, exec (.rdr 0x01) s = .next { s with rdata := v } ∧
      v.getLsbD 0 = s.ie ∧ v.getLsbD 1 = s.txEn ∧ v.getLsbD 2 = s.rxEn ∧ v.getLsbD 3 = s.mode ∧
      v.getLsbD 4 = s.txPin ∧ v.getLsbD 5 = s.cleanPin ∧ v.getLsbD 6 = decide (s.txPhase = .hold) ∧
      v.getLsbD 7 = false) ∧
  TxState.code .preamble = 0 ∧ TxState.code .extendPreamble = 1 ∧ TxState.code .separator = 2 ∧
    TxState.code .sendByte = 3 ∧ RxState.code .preamble = 0 ∧ RxState.code .startBit = 1 ∧ RxState.code .data = 2 ∧
    RxState.code .endBit = 3

/-- MODE, TXEN, RXEN, CLI and SEI each write their one bit and nothing else (44_host_ops.md R263, R264, R265, R267,
R268). -/
def Obligations.ControlOperationsWriteTheirBit : Prop :=
  ∀ s : State, s.fault = 0 →
    (∀ y, exec (.mode y) s = .next { s with mode := y }) ∧
    (∀ y, exec (.txen y) s = .next { s with txEn := y }) ∧
    (∀ y, exec (.rxen y) s = .next { s with rxEn := y }) ∧
    exec .cli s = .next { s with ie := false } ∧
    exec .sei s = .next { s with ie := true }

/-- Reads change nothing but `RDATA`, and a repeated read gives the same (20_memory.md R98, which the spec marks as
derived). -/
def Obligations.ReadsAreIdempotent : Prop :=
  ∀ (i : Instr) (s : State), i.WellFormed → s.fault = 0 →
    (i = .sel ∨ (∃ n, i = .rdx n) ∨ (∃ r, i = .rdr r)) →
    ∃ t, exec i s = .next t ∧ t = { s with rdata := t.rdata } ∧ exec i t = .next t

/-! ## Whole-machine rules -/

/-- Each register changes only by the operations its rule names as writers (10_state.md R32 to R37, R40 to R59, R62, R63;
20_memory.md R91): the exported buffer and `RX_STATE` only on a falling edge, `RX_START` only on a rising one, `FAULT` only
where TXT raises `TX_BAD_SIZE`, or, the model's choice (log entry 14), where an operation has a reserved operand. That no
other register is written on the side the spec marks as derived (10_state.md R64). -/
def Obligations.OnlyTheNamedWritersWrite : Prop :=
  ∀ (i : Instr) (s t : State), exec i s = .next t → i ≠ .reset →
    (t.rdata ≠ s.rdata → i = .sel ∨ (∃ n, i = .rdx n) ∨ ∃ r, i = .rdr r) ∧
    (t.ie ≠ s.ie → i = .cli ∨ i = .sei) ∧
    (t.txEn ≠ s.txEn → ∃ y, i = .txen y) ∧
    (t.rxEn ≠ s.rxEn → ∃ y, i = .rxen y) ∧
    (t.mode ≠ s.mode → ∃ y, i = .mode y) ∧
    (t.fault ≠ s.fault → i = .txt ∧ t.fault = 0x02 ∨ ¬ i.WellFormed ∧ t.fault = 0x01) ∧
    (t.flags ≠ s.flags → (∃ b, i = .req b) ∨ (∃ b, i = .clr b) ∨ ∃ time, i = .rxe false time) ∧
    (t.slot0 ≠ s.slot0 → (∃ n v, i = .wrs false n v) ∨ i = .txt) ∧
    (t.slot1 ≠ s.slot1 → ∃ n v, i = .wrs true n v) ∧
    (t.exported ≠ s.exported → ∃ time, i = .rxe false time) ∧
    (t.rxState ≠ s.rxState → ∃ time, i = .rxe false time) ∧
    (t.rxStart ≠ s.rxStart → ∃ time, i = .rxe true time) ∧
    ((t.rxOnes, t.rxBitCnt, t.rxByteCnt, t.rxAcc, t.rxScratch, t.rxDiag, t.cleanPin) ≠
        (s.rxOnes, s.rxBitCnt, s.rxByteCnt, s.rxAcc, s.rxScratch, s.rxDiag, s.cleanPin) →
      ∃ level time, i = .rxe level time) ∧
    ((t.txState, t.txPreCnt, t.txExtCnt, t.txByteIdx, t.txSlot, t.txMask, t.txCurByte, t.txLatch, t.txPhase, t.txPin) ≠
        (s.txState, s.txPreCnt, s.txExtCnt, s.txByteIdx, s.txSlot, s.txMask, s.txCurByte, s.txLatch, s.txPhase,
          s.txPin) → i = .txt)

/-- The traces are append-only, by TXT and RXE alone and by at most one record a step, RESET included, and no operation
changes the parameters (10_state.md R60, R61, R67). -/
def Obligations.TracesOnlyGrow : Prop :=
  ∀ (i : Instr) (s t : State), exec i s = .next t →
    (∃ new, t.txTrace = s.txTrace ++ new ∧ new.length ≤ 1 ∧ (new ≠ [] → i = .txt)) ∧
    (∃ new, t.cleanTrace = s.cleanTrace ++ new ∧ new.length ≤ 1 ∧ (new ≠ [] → ∃ level time, i = .rxe level time)) ∧
    t.cfg = s.cfg

/-- While `IE` is 0, whatever words the agents deliver, as long as none is SEI or RESET, no TXT and no RXE takes effect:
every register of the encoder and of the decoder, both pins, both traces, the exported buffer and `IE` stand as they are, and
only what MAIN's other operations write can differ (20_memory.md R97, which the spec marks as derived, and R102). -/
def Obligations.MaskedBracketIsAtomic : Prop :=
  ∀ (ds : List Delivery) (s t : State), s.ie = false →
    (∀ d ∈ ds, decode d.agent d.word ≠ .op .sei ∧ decode d.agent d.word ≠ .op .reset) →
    runWords ds s = .next t →
    t = { s with
      rdata := t.rdata, txEn := t.txEn, rxEn := t.rxEn, mode := t.mode, fault := t.fault, slot0 := t.slot0
      slot1 := t.slot1, flags := t.flags }

/-! ## Pseudo-operations -/

/-- The five pseudo-operations do what 30_encoding.md R142 says.
LOADMSG writes its 3 to 6 bytes and the size and leaves the cells above them, PRE, the other slot and everything else.
LOADPKT is LOADMSG of its bytes and their XOR, and what it leaves is a valid packet.
START sets the three enables.
READPKT reads the size and the six cells of the exported buffer as they were when CLI ran, whatever ISR words are delivered
between its reads (20_memory.md R97, which the spec marks as derived), and ends with `IE` 1.
ACK clears its flag. -/
def Obligations.PseudoOperationsDoWhatTheyName : Prop :=
  (∀ (s : State) (k : Bool) (bytes : List Byte), s.fault = 0 → 3 ≤ bytes.length → bytes.length ≤ 6 →
    ∃ ops t, expandPseudo (.loadMsg k bytes) = some ops ∧
      runWords (ops.map fun i => ⟨.main, encode i⟩) s = .next t ∧
      (t.slot k).data.toList = bytes ++ (s.slot k).data.toList.drop bytes.length ∧
      (t.slot k).size.toNat = bytes.length ∧ (t.slot k).pre = (s.slot k).pre ∧ t.slot (!k) = s.slot (!k) ∧
      t = { s with slot0 := t.slot0, slot1 := t.slot1 }) ∧
  (∀ (s : State) (k : Bool) (bytes : List Byte), s.fault = 0 → 2 ≤ bytes.length → bytes.length ≤ 5 →
    ∃ ops t, expandPseudo (.loadPkt k bytes) = some ops ∧
      expandPseudo (.loadMsg k (bytes ++ [bytes.foldl (· ^^^ ·) 0])) = some ops ∧
      runWords (ops.map fun i => ⟨.main, encode i⟩) s = .next t ∧
      validPacket (t.slot k).data (t.slot k).size = true ∧
      messageBytes (t.slot k).data (t.slot k).size = bytes ++ [bytes.foldl (· ^^^ ·) 0] ∧
      t = { s with slot0 := t.slot0, slot1 := t.slot1 } ∧ t.slot (!k) = s.slot (!k) ∧ (t.slot k).pre = (s.slot k).pre) ∧
  (∀ s : State, s.fault = 0 →
    ∃ ops, expandPseudo .start = some ops ∧
      runWords (ops.map fun i => ⟨.main, encode i⟩) s = .next { s with ie := true, txEn := true, rxEn := true }) ∧
  (∀ s : State, s.fault = 0 →
    ∃ reads, expandPseudo .readPkt = some (.cli :: reads ++ [.sei]) ∧
      (∀ (j : Nat) (v : Byte) (ds : List Delivery),
        (s.exported.size :: s.exported.data.toList)[j]? = some v →
        (∀ d ∈ ds, d.agent = .main ∨ d = ⟨.timer, encode .txt⟩ ∨
          ∃ level time, d = ⟨.edge, encode (.rxe level time)⟩) →
        ds.filter (fun d => decide (d.agent = .main)) = (reads.take (j + 1)).map (fun i => ⟨.main, encode i⟩) →
        runWords (⟨.main, encode .cli⟩ :: ds) s = .next { s with ie := false, rdata := v }) ∧
      runWords ((Instr.cli :: reads ++ [Instr.sei]).map fun i => ⟨.main, encode i⟩) s =
        .next { s with ie := true, rdata := s.exported.data.c5 }) ∧
  (∀ (s : State) (b : BitVec 3), s.fault = 0 →
    ∃ ops, expandPseudo (.ack b) = some ops ∧
      runWords (ops.map fun i => ⟨.main, encode i⟩) s =
        .next { s with flags := s.flags &&& ~~~(BitVec.twoPow 8 b.toNat) })
end

