-- ==== Sys2Proof/Laws/Cells.lean ====
section
/-! SUPPORT. Read after write in the cell arrays and the slots. -/
namespace Sys2Proof

theorem Cells.read_write_same (a : Cells) (v : Byte) {i : Nat} (h : i ≤ 5) : (a.write i v).read i = some v := by
  rcases i with _ | _ | _ | _ | _ | _ | i <;> first | rfl | omega

theorem Cells.read_write_other (a : Cells) (v : Byte) {i j : Nat} (h : i ≠ j) : (a.write i v).read j = a.read j := by
  rcases i with _ | _ | _ | _ | _ | _ | i <;> rcases j with _ | _ | _ | _ | _ | _ | j <;>
    first | rfl | exact absurd rfl h

theorem Cells.read_isSome_iff (a : Cells) (i : Nat) : (a.read i).isSome = true ↔ i ≤ 5 := by
  rcases i with _ | _ | _ | _ | _ | _ | i <;> simp [Cells.read]

theorem Cells.read_eq_getElem (a : Cells) (i : Nat) : a.read i = a.toList[i]? := by
  rcases i with _ | _ | _ | _ | _ | _ | i <;> simp [Cells.read, Cells.toList]

/-- A write sets its entry of the list of cells. -/
theorem Cells.toList_write (a : Cells) (i : Nat) (v : Byte) : (a.write i v).toList = a.toList.set i v := by
  rcases i with _ | _ | _ | _ | _ | _ | i <;> rfl

namespace Machine

theorem slotRead_slotWrite_same {m m' : Slot} {i : Nat} {v : Byte} (h : slotWrite m i v = some m') :
    slotRead m' i = some v := by
  unfold slotWrite at h
  split at h
  · cases h
    rw [slotRead, if_neg (by omega), if_neg (by omega)]
    exact Cells.read_write_same _ _ ‹_›
  · split at h
    · cases h
      simp [slotRead, *]
    · split at h <;> cases h
      simp [slotRead, *]

theorem slotRead_slotWrite_other {m m' : Slot} {i j : Nat} {v : Byte} (h : slotWrite m i v = some m') (hij : i ≠ j) :
    slotRead m' j = slotRead m j := by
  unfold slotWrite at h
  split at h
  · cases h
    simp [slotRead, Cells.read_write_other _ _ hij]
  · split at h
    · cases h
      have : ¬ j = 6 := by omega
      simp [slotRead, this]
    · split at h <;> cases h
      have : ¬ j = 7 := by omega
      simp [slotRead, this]

theorem slotWrite_isSome_iff (m : Slot) (i : Nat) (v : Byte) : (slotWrite m i v).isSome = true ↔ i ≤ 7 := by
  unfold slotWrite
  split
  · simp; omega
  · split
    · simp; omega
    · split <;> simp <;> omega

theorem exportRead_isSome_iff (e : ExportBuffer) (i : Nat) : (exportRead e i).isSome = true ↔ i ≤ 6 := by
  unfold exportRead
  split
  · simp; omega
  · rw [Cells.read_isSome_iff]; omega

/-- Every register number of the map names a register (10_state.md R66). -/
theorem readReg_isSome (s : State) (n : Byte) (h : n.toNat ≤ 0x18 ∨ 0x20 ≤ n.toNat ∧ n.toNat ≤ 0x36) :
    (s.readReg n).isSome = true := by
  have hs : ∀ m : Slot, ∀ i ≤ 7, (slotRead m i).isSome = true := by
    intro m i hi
    unfold slotRead
    split
    · rfl
    · split
      · rfl
      · rw [Cells.read_isSome_iff]; omega
  unfold State.readReg
  simp only
  generalize n.toNat = m at h
  split
  · rename_i h1
    interval_cases m <;> rfl
  · split
    · rw [Cells.read_isSome_iff]; omega
    · split
      · omega
      · split
        · exact hs _ _ (by omega)
        · split
          · exact hs _ _ (by omega)
          · rw [exportRead_isSome_iff]; omega

end Machine
end Sys2Proof
end

