-- ==== Sys2Proof/Laws/Deliver.lean ====
section
/-! SUPPORT. What choosing the next word can do, said once. -/
namespace Sys2Proof.Machine

/-- A word that does not wait is taken from the head of the list. -/
theorem firstDeliverable_head {s : State} {d : Delivery} {ds : List Delivery} (h : s.waits d = false) :
    firstDeliverable s (d :: ds) = some (d, ds) := by
  simp [firstDeliverable, h]

/-- The word taken does not wait, every word before it does, and those stay held. -/
theorem firstDeliverable_some {s : State} {ds held : List Delivery} {e : Delivery}
    (h : firstDeliverable s ds = some (e, held)) :
    ∃ before after, ds = before ++ e :: after ∧ held = before ++ after ∧ (∀ d ∈ before, s.waits d = true) ∧
      s.waits e = false := by
  induction ds generalizing held with
  | nil => cases h
  | cons d ds ih =>
    unfold firstDeliverable at h
    split at h
    · rename_i hw
      split at h
      · rename_i e' held' he
        cases h
        obtain ⟨before, after, rfl, rfl, hb, hn⟩ := ih he
        exact ⟨d :: before, after, rfl, rfl, by simpa [hw] using hb, hn⟩
      · cases h
    · rename_i hw
      cases h
      exact ⟨[], ds, rfl, rfl, by simp, by simpa using hw⟩

/-- No word is taken exactly where all of them wait. -/
theorem firstDeliverable_none {s : State} {ds : List Delivery} :
    firstDeliverable s ds = none ↔ ∀ d ∈ ds, s.waits d = true := by
  induction ds with
  | nil => simp [firstDeliverable]
  | cons d ds ih =>
    unfold firstDeliverable
    split
    · rename_i hw
      cases he : firstDeliverable s ds with
      | none => simpa [hw] using ih.mp he
      | some p =>
        have : ¬ ∀ d ∈ ds, s.waits d = true := fun h => by simp [ih.mpr h] at he
        simpa [hw] using this
    · rename_i hw
      simp [hw]

/-- What a step that answers a next state did: it delivered the first word that does not wait, or every word waits. -/
theorem nextStep_next {s t : State} (h : nextStep s = .next t) :
    legalConfig s.cfg = true ∧ s.fault = 0 ∧
      ((∃ d held, firstDeliverable s s.inbox = some (d, held) ∧ deliver d { s with inbox := held } = .next t) ∨
        (firstDeliverable s s.inbox = none ∧ t = s)) := by
  unfold nextStep at h
  split at h
  · split at h
    · cases h
    · refine ⟨‹_›, by simpa using ‹¬ s.fault ≠ 0›, ?_⟩
      split at h
      · exact .inl ⟨_, _, ‹_›, h⟩
      · exact .inr ⟨‹_›, by simpa using h.symm⟩
  · cases h

/-- What a delivery that answers a next state did: it executed the decoded operation, or raised `ILLEGAL_OP`. -/
theorem deliver_next {d : Delivery} {s t : State} (h : deliver d s = .next t) :
    (∃ i, decode d.agent d.word = .op i ∧ exec i s = .next t) ∨
      ((∃ why, decode d.agent d.word = .illegal why) ∧ s.fault = 0 ∧ t = { s with fault := 0x01 }) := by
  unfold deliver at h
  split at h
  · exact .inl ⟨_, ‹_›, h⟩
  · refine .inr ⟨⟨_, ‹_›⟩, ?_⟩
    unfold whenEnabled at h
    split at h
    · cases h
    · exact ⟨by simpa using ‹¬ s.fault ≠ 0›, by simpa [raiseFault, FaultCode.code] using h.symm⟩

end Sys2Proof.Machine
end

