-- ==== Sys2Proof/Laws/Encoding.lean ====
section
/-! SUPPORT. A field of a word and the word of an operation, as numbers. -/
namespace Sys2Proof

theorem wordField_toNat (w : Word) (lo len : Nat) : (wordField w lo len).toNat = w.toNat / 2 ^ lo % 2 ^ len := by
  rw [wordField, BitVec.extractLsb'_toNat, Nat.shiftRight_eq_div_pow]

theorem wordField_beq_zero (w : Word) (lo len : Nat) :
    (wordField w lo len == 0) = decide (w.toNat / 2 ^ lo % 2 ^ len = 0) := by
  rw [← wordField_toNat, Bool.eq_iff_iff, beq_iff_eq, decide_eq_true_iff]
  exact ⟨fun h => by simp [h], fun h => BitVec.eq_of_toNat_eq (by simpa using h)⟩

theorem wordField_beq_one (w : Word) (lo : Nat) : (wordField w lo 1 == 1) = decide (w.toNat / 2 ^ lo % 2 = 1) := by
  have h := wordField_toNat w lo 1
  rw [pow_one] at h
  rw [← h, Bool.eq_iff_iff, beq_iff_eq, decide_eq_true_iff]
  exact ⟨fun h => by simp [h], fun h => BitVec.eq_of_toNat_eq (by simpa using h)⟩

theorem encodeNat_lt (i : Instr) : encodeNat i < 2 ^ 32 := by
  cases i with
  | rxe level time => have := time.isLt; cases level <;> simp [encodeNat] <;> omega
  | req bit => have := bit.isLt; simp only [encodeNat]; omega
  | clr bit => have := bit.isLt; simp only [encodeNat]; omega
  | rdx index => have := index.isLt; simp only [encodeNat]; omega
  | wrs slot index value => have := index.isLt; have := value.isLt; cases slot <;> simp [encodeNat] <;> omega
  | mode value => cases value <;> decide
  | txen value => cases value <;> decide
  | rxen value => cases value <;> decide
  | rdr number => have := number.isLt; simp only [encodeNat]; omega
  | txt | sel | cli | sei | reset => decide

theorem encode_toNat (i : Instr) : (encode i).toNat = encodeNat i := by
  rw [encode, BitVec.toNat_ofNat, Nat.mod_eq_of_lt (encodeNat_lt i)]

end Sys2Proof
end

