-- ==== Sys2Proof/Laws/State.lean ====
section
/-! SUPPORT. One lemma per field for each named update of State, so that a proof reads a field without unfolding the update. -/
namespace Sys2Proof.Machine

@[simp] theorem driveHalf_cfg (level : Bool) (d : CellTiming) (s : State) : (driveHalf level d s).cfg = s.cfg := rfl
@[simp] theorem driveHalf_rdata (level : Bool) (d : CellTiming) (s : State) : (driveHalf level d s).rdata = s.rdata := rfl
@[simp] theorem driveHalf_ie (level : Bool) (d : CellTiming) (s : State) : (driveHalf level d s).ie = s.ie := rfl
@[simp] theorem driveHalf_txEn (level : Bool) (d : CellTiming) (s : State) : (driveHalf level d s).txEn = s.txEn := rfl
@[simp] theorem driveHalf_rxEn (level : Bool) (d : CellTiming) (s : State) : (driveHalf level d s).rxEn = s.rxEn := rfl
@[simp] theorem driveHalf_mode (level : Bool) (d : CellTiming) (s : State) : (driveHalf level d s).mode = s.mode := rfl
@[simp] theorem driveHalf_fault (level : Bool) (d : CellTiming) (s : State) : (driveHalf level d s).fault = s.fault := rfl
@[simp] theorem driveHalf_txState (level : Bool) (d : CellTiming) (s : State) : (driveHalf level d s).txState = s.txState := rfl
@[simp] theorem driveHalf_txPreCnt (level : Bool) (d : CellTiming) (s : State) : (driveHalf level d s).txPreCnt = s.txPreCnt := rfl
@[simp] theorem driveHalf_txExtCnt (level : Bool) (d : CellTiming) (s : State) : (driveHalf level d s).txExtCnt = s.txExtCnt := rfl
@[simp] theorem driveHalf_txByteIdx (level : Bool) (d : CellTiming) (s : State) : (driveHalf level d s).txByteIdx = s.txByteIdx := rfl
@[simp] theorem driveHalf_txSlot (level : Bool) (d : CellTiming) (s : State) : (driveHalf level d s).txSlot = s.txSlot := rfl
@[simp] theorem driveHalf_txMask (level : Bool) (d : CellTiming) (s : State) : (driveHalf level d s).txMask = s.txMask := rfl
@[simp] theorem driveHalf_txCurByte (level : Bool) (d : CellTiming) (s : State) : (driveHalf level d s).txCurByte = s.txCurByte := rfl
@[simp] theorem driveHalf_txLatch (level : Bool) (d : CellTiming) (s : State) : (driveHalf level d s).txLatch = s.txLatch := rfl
@[simp] theorem driveHalf_txPhase (level : Bool) (d : CellTiming) (s : State) : (driveHalf level d s).txPhase = s.txPhase := rfl
@[simp] theorem driveHalf_txPin (level : Bool) (d : CellTiming) (s : State) : (driveHalf level d s).txPin = level := rfl
@[simp] theorem driveHalf_slot0 (level : Bool) (d : CellTiming) (s : State) : (driveHalf level d s).slot0 = s.slot0 := rfl
@[simp] theorem driveHalf_slot1 (level : Bool) (d : CellTiming) (s : State) : (driveHalf level d s).slot1 = s.slot1 := rfl
@[simp] theorem driveHalf_rxState (level : Bool) (d : CellTiming) (s : State) : (driveHalf level d s).rxState = s.rxState := rfl
@[simp] theorem driveHalf_rxOnes (level : Bool) (d : CellTiming) (s : State) : (driveHalf level d s).rxOnes = s.rxOnes := rfl
@[simp] theorem driveHalf_rxBitCnt (level : Bool) (d : CellTiming) (s : State) : (driveHalf level d s).rxBitCnt = s.rxBitCnt := rfl
@[simp] theorem driveHalf_rxByteCnt (level : Bool) (d : CellTiming) (s : State) : (driveHalf level d s).rxByteCnt = s.rxByteCnt := rfl
@[simp] theorem driveHalf_rxAcc (level : Bool) (d : CellTiming) (s : State) : (driveHalf level d s).rxAcc = s.rxAcc := rfl
@[simp] theorem driveHalf_rxScratch (level : Bool) (d : CellTiming) (s : State) : (driveHalf level d s).rxScratch = s.rxScratch := rfl
@[simp] theorem driveHalf_rxStart (level : Bool) (d : CellTiming) (s : State) : (driveHalf level d s).rxStart = s.rxStart := rfl
@[simp] theorem driveHalf_rxDiag (level : Bool) (d : CellTiming) (s : State) : (driveHalf level d s).rxDiag = s.rxDiag := rfl
@[simp] theorem driveHalf_cleanPin (level : Bool) (d : CellTiming) (s : State) : (driveHalf level d s).cleanPin = s.cleanPin := rfl
@[simp] theorem driveHalf_exported (level : Bool) (d : CellTiming) (s : State) : (driveHalf level d s).exported = s.exported := rfl
@[simp] theorem driveHalf_flags (level : Bool) (d : CellTiming) (s : State) : (driveHalf level d s).flags = s.flags := rfl
@[simp] theorem driveHalf_txTrace (level : Bool) (d : CellTiming) (s : State) : (driveHalf level d s).txTrace = s.txTrace ++ [⟨level, timing s.cfg d⟩] := rfl
@[simp] theorem driveHalf_cleanTrace (level : Bool) (d : CellTiming) (s : State) : (driveHalf level d s).cleanTrace = s.cleanTrace := rfl
@[simp] theorem driveHalf_inbox (level : Bool) (d : CellTiming) (s : State) : (driveHalf level d s).inbox = s.inbox := rfl
@[simp] theorem driveHalf_answers (level : Bool) (d : CellTiming) (s : State) : (driveHalf level d s).answers = s.answers := rfl
@[simp] theorem driveHalf_draws (level : Bool) (d : CellTiming) (s : State) : (driveHalf level d s).draws = s.draws := rfl

@[simp] theorem holdHalf_cfg (s : State) : (holdHalf s).cfg = s.cfg := rfl
@[simp] theorem holdHalf_rdata (s : State) : (holdHalf s).rdata = s.rdata := rfl
@[simp] theorem holdHalf_ie (s : State) : (holdHalf s).ie = s.ie := rfl
@[simp] theorem holdHalf_txEn (s : State) : (holdHalf s).txEn = s.txEn := rfl
@[simp] theorem holdHalf_rxEn (s : State) : (holdHalf s).rxEn = s.rxEn := rfl
@[simp] theorem holdHalf_mode (s : State) : (holdHalf s).mode = s.mode := rfl
@[simp] theorem holdHalf_fault (s : State) : (holdHalf s).fault = s.fault := rfl
@[simp] theorem holdHalf_txState (s : State) : (holdHalf s).txState = s.txState := rfl
@[simp] theorem holdHalf_txPreCnt (s : State) : (holdHalf s).txPreCnt = s.txPreCnt := rfl
@[simp] theorem holdHalf_txExtCnt (s : State) : (holdHalf s).txExtCnt = s.txExtCnt := rfl
@[simp] theorem holdHalf_txByteIdx (s : State) : (holdHalf s).txByteIdx = s.txByteIdx := rfl
@[simp] theorem holdHalf_txSlot (s : State) : (holdHalf s).txSlot = s.txSlot := rfl
@[simp] theorem holdHalf_txMask (s : State) : (holdHalf s).txMask = s.txMask := rfl
@[simp] theorem holdHalf_txCurByte (s : State) : (holdHalf s).txCurByte = s.txCurByte := rfl
@[simp] theorem holdHalf_txLatch (s : State) : (holdHalf s).txLatch = s.txLatch := rfl
@[simp] theorem holdHalf_txPhase (s : State) : (holdHalf s).txPhase = .advance := rfl
@[simp] theorem holdHalf_txPin (s : State) : (holdHalf s).txPin = true := rfl
@[simp] theorem holdHalf_slot0 (s : State) : (holdHalf s).slot0 = s.slot0 := rfl
@[simp] theorem holdHalf_slot1 (s : State) : (holdHalf s).slot1 = s.slot1 := rfl
@[simp] theorem holdHalf_rxState (s : State) : (holdHalf s).rxState = s.rxState := rfl
@[simp] theorem holdHalf_rxOnes (s : State) : (holdHalf s).rxOnes = s.rxOnes := rfl
@[simp] theorem holdHalf_rxBitCnt (s : State) : (holdHalf s).rxBitCnt = s.rxBitCnt := rfl
@[simp] theorem holdHalf_rxByteCnt (s : State) : (holdHalf s).rxByteCnt = s.rxByteCnt := rfl
@[simp] theorem holdHalf_rxAcc (s : State) : (holdHalf s).rxAcc = s.rxAcc := rfl
@[simp] theorem holdHalf_rxScratch (s : State) : (holdHalf s).rxScratch = s.rxScratch := rfl
@[simp] theorem holdHalf_rxStart (s : State) : (holdHalf s).rxStart = s.rxStart := rfl
@[simp] theorem holdHalf_rxDiag (s : State) : (holdHalf s).rxDiag = s.rxDiag := rfl
@[simp] theorem holdHalf_cleanPin (s : State) : (holdHalf s).cleanPin = s.cleanPin := rfl
@[simp] theorem holdHalf_exported (s : State) : (holdHalf s).exported = s.exported := rfl
@[simp] theorem holdHalf_flags (s : State) : (holdHalf s).flags = s.flags := rfl
@[simp] theorem holdHalf_txTrace (s : State) : (holdHalf s).txTrace = s.txTrace ++ [⟨true, timing s.cfg s.txLatch⟩] := rfl
@[simp] theorem holdHalf_cleanTrace (s : State) : (holdHalf s).cleanTrace = s.cleanTrace := rfl
@[simp] theorem holdHalf_inbox (s : State) : (holdHalf s).inbox = s.inbox := rfl
@[simp] theorem holdHalf_answers (s : State) : (holdHalf s).answers = s.answers := rfl
@[simp] theorem holdHalf_draws (s : State) : (holdHalf s).draws = s.draws := rfl

@[simp] theorem cleanOut_cfg (level : Bool) (s : State) : (cleanOut level s).cfg = s.cfg := rfl
@[simp] theorem cleanOut_rdata (level : Bool) (s : State) : (cleanOut level s).rdata = s.rdata := rfl
@[simp] theorem cleanOut_ie (level : Bool) (s : State) : (cleanOut level s).ie = s.ie := rfl
@[simp] theorem cleanOut_txEn (level : Bool) (s : State) : (cleanOut level s).txEn = s.txEn := rfl
@[simp] theorem cleanOut_rxEn (level : Bool) (s : State) : (cleanOut level s).rxEn = s.rxEn := rfl
@[simp] theorem cleanOut_mode (level : Bool) (s : State) : (cleanOut level s).mode = s.mode := rfl
@[simp] theorem cleanOut_fault (level : Bool) (s : State) : (cleanOut level s).fault = s.fault := rfl
@[simp] theorem cleanOut_txState (level : Bool) (s : State) : (cleanOut level s).txState = s.txState := rfl
@[simp] theorem cleanOut_txPreCnt (level : Bool) (s : State) : (cleanOut level s).txPreCnt = s.txPreCnt := rfl
@[simp] theorem cleanOut_txExtCnt (level : Bool) (s : State) : (cleanOut level s).txExtCnt = s.txExtCnt := rfl
@[simp] theorem cleanOut_txByteIdx (level : Bool) (s : State) : (cleanOut level s).txByteIdx = s.txByteIdx := rfl
@[simp] theorem cleanOut_txSlot (level : Bool) (s : State) : (cleanOut level s).txSlot = s.txSlot := rfl
@[simp] theorem cleanOut_txMask (level : Bool) (s : State) : (cleanOut level s).txMask = s.txMask := rfl
@[simp] theorem cleanOut_txCurByte (level : Bool) (s : State) : (cleanOut level s).txCurByte = s.txCurByte := rfl
@[simp] theorem cleanOut_txLatch (level : Bool) (s : State) : (cleanOut level s).txLatch = s.txLatch := rfl
@[simp] theorem cleanOut_txPhase (level : Bool) (s : State) : (cleanOut level s).txPhase = s.txPhase := rfl
@[simp] theorem cleanOut_txPin (level : Bool) (s : State) : (cleanOut level s).txPin = s.txPin := rfl
@[simp] theorem cleanOut_slot0 (level : Bool) (s : State) : (cleanOut level s).slot0 = s.slot0 := rfl
@[simp] theorem cleanOut_slot1 (level : Bool) (s : State) : (cleanOut level s).slot1 = s.slot1 := rfl
@[simp] theorem cleanOut_rxState (level : Bool) (s : State) : (cleanOut level s).rxState = s.rxState := rfl
@[simp] theorem cleanOut_rxOnes (level : Bool) (s : State) : (cleanOut level s).rxOnes = s.rxOnes := rfl
@[simp] theorem cleanOut_rxBitCnt (level : Bool) (s : State) : (cleanOut level s).rxBitCnt = s.rxBitCnt := rfl
@[simp] theorem cleanOut_rxByteCnt (level : Bool) (s : State) : (cleanOut level s).rxByteCnt = s.rxByteCnt := rfl
@[simp] theorem cleanOut_rxAcc (level : Bool) (s : State) : (cleanOut level s).rxAcc = s.rxAcc := rfl
@[simp] theorem cleanOut_rxScratch (level : Bool) (s : State) : (cleanOut level s).rxScratch = s.rxScratch := rfl
@[simp] theorem cleanOut_rxStart (level : Bool) (s : State) : (cleanOut level s).rxStart = s.rxStart := rfl
@[simp] theorem cleanOut_rxDiag (level : Bool) (s : State) : (cleanOut level s).rxDiag = s.rxDiag := rfl
@[simp] theorem cleanOut_cleanPin (level : Bool) (s : State) : (cleanOut level s).cleanPin = (if s.mode then level else s.cfg.forcedLevel) := rfl
@[simp] theorem cleanOut_exported (level : Bool) (s : State) : (cleanOut level s).exported = s.exported := rfl
@[simp] theorem cleanOut_flags (level : Bool) (s : State) : (cleanOut level s).flags = s.flags := rfl
@[simp] theorem cleanOut_txTrace (level : Bool) (s : State) : (cleanOut level s).txTrace = s.txTrace := rfl
@[simp] theorem cleanOut_cleanTrace (level : Bool) (s : State) : (cleanOut level s).cleanTrace = s.cleanTrace ++ [if s.mode then level else s.cfg.forcedLevel] := rfl
@[simp] theorem cleanOut_inbox (level : Bool) (s : State) : (cleanOut level s).inbox = s.inbox := rfl
@[simp] theorem cleanOut_answers (level : Bool) (s : State) : (cleanOut level s).answers = s.answers := rfl
@[simp] theorem cleanOut_draws (level : Bool) (s : State) : (cleanOut level s).draws = s.draws := rfl

@[simp] theorem risingEdge_cfg (time : Ticks) (s : State) : (risingEdge time s).cfg = s.cfg := rfl
@[simp] theorem risingEdge_rdata (time : Ticks) (s : State) : (risingEdge time s).rdata = s.rdata := rfl
@[simp] theorem risingEdge_ie (time : Ticks) (s : State) : (risingEdge time s).ie = s.ie := rfl
@[simp] theorem risingEdge_txEn (time : Ticks) (s : State) : (risingEdge time s).txEn = s.txEn := rfl
@[simp] theorem risingEdge_rxEn (time : Ticks) (s : State) : (risingEdge time s).rxEn = s.rxEn := rfl
@[simp] theorem risingEdge_mode (time : Ticks) (s : State) : (risingEdge time s).mode = s.mode := rfl
@[simp] theorem risingEdge_fault (time : Ticks) (s : State) : (risingEdge time s).fault = s.fault := rfl
@[simp] theorem risingEdge_txState (time : Ticks) (s : State) : (risingEdge time s).txState = s.txState := rfl
@[simp] theorem risingEdge_txPreCnt (time : Ticks) (s : State) : (risingEdge time s).txPreCnt = s.txPreCnt := rfl
@[simp] theorem risingEdge_txExtCnt (time : Ticks) (s : State) : (risingEdge time s).txExtCnt = s.txExtCnt := rfl
@[simp] theorem risingEdge_txByteIdx (time : Ticks) (s : State) : (risingEdge time s).txByteIdx = s.txByteIdx := rfl
@[simp] theorem risingEdge_txSlot (time : Ticks) (s : State) : (risingEdge time s).txSlot = s.txSlot := rfl
@[simp] theorem risingEdge_txMask (time : Ticks) (s : State) : (risingEdge time s).txMask = s.txMask := rfl
@[simp] theorem risingEdge_txCurByte (time : Ticks) (s : State) : (risingEdge time s).txCurByte = s.txCurByte := rfl
@[simp] theorem risingEdge_txLatch (time : Ticks) (s : State) : (risingEdge time s).txLatch = s.txLatch := rfl
@[simp] theorem risingEdge_txPhase (time : Ticks) (s : State) : (risingEdge time s).txPhase = s.txPhase := rfl
@[simp] theorem risingEdge_txPin (time : Ticks) (s : State) : (risingEdge time s).txPin = s.txPin := rfl
@[simp] theorem risingEdge_slot0 (time : Ticks) (s : State) : (risingEdge time s).slot0 = s.slot0 := rfl
@[simp] theorem risingEdge_slot1 (time : Ticks) (s : State) : (risingEdge time s).slot1 = s.slot1 := rfl
@[simp] theorem risingEdge_rxState (time : Ticks) (s : State) : (risingEdge time s).rxState = s.rxState := rfl
@[simp] theorem risingEdge_rxOnes (time : Ticks) (s : State) : (risingEdge time s).rxOnes = s.rxOnes := rfl
@[simp] theorem risingEdge_rxBitCnt (time : Ticks) (s : State) : (risingEdge time s).rxBitCnt = s.rxBitCnt := rfl
@[simp] theorem risingEdge_rxByteCnt (time : Ticks) (s : State) : (risingEdge time s).rxByteCnt = s.rxByteCnt := rfl
@[simp] theorem risingEdge_rxAcc (time : Ticks) (s : State) : (risingEdge time s).rxAcc = s.rxAcc := rfl
@[simp] theorem risingEdge_rxScratch (time : Ticks) (s : State) : (risingEdge time s).rxScratch = s.rxScratch := rfl
@[simp] theorem risingEdge_rxStart (time : Ticks) (s : State) : (risingEdge time s).rxStart = time := rfl
@[simp] theorem risingEdge_rxDiag (time : Ticks) (s : State) : (risingEdge time s).rxDiag = s.rxDiag := rfl
@[simp] theorem risingEdge_cleanPin (time : Ticks) (s : State) : (risingEdge time s).cleanPin = s.cleanPin := rfl
@[simp] theorem risingEdge_exported (time : Ticks) (s : State) : (risingEdge time s).exported = s.exported := rfl
@[simp] theorem risingEdge_flags (time : Ticks) (s : State) : (risingEdge time s).flags = s.flags := rfl
@[simp] theorem risingEdge_txTrace (time : Ticks) (s : State) : (risingEdge time s).txTrace = s.txTrace := rfl
@[simp] theorem risingEdge_cleanTrace (time : Ticks) (s : State) : (risingEdge time s).cleanTrace = s.cleanTrace := rfl
@[simp] theorem risingEdge_inbox (time : Ticks) (s : State) : (risingEdge time s).inbox = s.inbox := rfl
@[simp] theorem risingEdge_answers (time : Ticks) (s : State) : (risingEdge time s).answers = s.answers := rfl
@[simp] theorem risingEdge_draws (time : Ticks) (s : State) : (risingEdge time s).draws = s.draws := rfl

@[simp] theorem exportPacket_cfg (s : State) : (exportPacket s).cfg = s.cfg := rfl
@[simp] theorem exportPacket_rdata (s : State) : (exportPacket s).rdata = s.rdata := rfl
@[simp] theorem exportPacket_ie (s : State) : (exportPacket s).ie = s.ie := rfl
@[simp] theorem exportPacket_txEn (s : State) : (exportPacket s).txEn = s.txEn := rfl
@[simp] theorem exportPacket_rxEn (s : State) : (exportPacket s).rxEn = s.rxEn := rfl
@[simp] theorem exportPacket_mode (s : State) : (exportPacket s).mode = s.mode := rfl
@[simp] theorem exportPacket_fault (s : State) : (exportPacket s).fault = s.fault := rfl
@[simp] theorem exportPacket_txState (s : State) : (exportPacket s).txState = s.txState := rfl
@[simp] theorem exportPacket_txPreCnt (s : State) : (exportPacket s).txPreCnt = s.txPreCnt := rfl
@[simp] theorem exportPacket_txExtCnt (s : State) : (exportPacket s).txExtCnt = s.txExtCnt := rfl
@[simp] theorem exportPacket_txByteIdx (s : State) : (exportPacket s).txByteIdx = s.txByteIdx := rfl
@[simp] theorem exportPacket_txSlot (s : State) : (exportPacket s).txSlot = s.txSlot := rfl
@[simp] theorem exportPacket_txMask (s : State) : (exportPacket s).txMask = s.txMask := rfl
@[simp] theorem exportPacket_txCurByte (s : State) : (exportPacket s).txCurByte = s.txCurByte := rfl
@[simp] theorem exportPacket_txLatch (s : State) : (exportPacket s).txLatch = s.txLatch := rfl
@[simp] theorem exportPacket_txPhase (s : State) : (exportPacket s).txPhase = s.txPhase := rfl
@[simp] theorem exportPacket_txPin (s : State) : (exportPacket s).txPin = s.txPin := rfl
@[simp] theorem exportPacket_slot0 (s : State) : (exportPacket s).slot0 = s.slot0 := rfl
@[simp] theorem exportPacket_slot1 (s : State) : (exportPacket s).slot1 = s.slot1 := rfl
@[simp] theorem exportPacket_rxState (s : State) : (exportPacket s).rxState = s.rxState := rfl
@[simp] theorem exportPacket_rxOnes (s : State) : (exportPacket s).rxOnes = s.rxOnes := rfl
@[simp] theorem exportPacket_rxBitCnt (s : State) : (exportPacket s).rxBitCnt = s.rxBitCnt := rfl
@[simp] theorem exportPacket_rxByteCnt (s : State) : (exportPacket s).rxByteCnt = s.rxByteCnt := rfl
@[simp] theorem exportPacket_rxAcc (s : State) : (exportPacket s).rxAcc = s.rxAcc := rfl
@[simp] theorem exportPacket_rxScratch (s : State) : (exportPacket s).rxScratch = s.rxScratch := rfl
@[simp] theorem exportPacket_rxStart (s : State) : (exportPacket s).rxStart = s.rxStart := rfl
@[simp] theorem exportPacket_rxDiag (s : State) : (exportPacket s).rxDiag = s.rxDiag := rfl
@[simp] theorem exportPacket_cleanPin (s : State) : (exportPacket s).cleanPin = s.cleanPin := rfl
@[simp] theorem exportPacket_exported (s : State) : (exportPacket s).exported = ⟨s.rxScratch, s.rxByteCnt⟩ := rfl
@[simp] theorem exportPacket_flags (s : State) : (exportPacket s).flags = setFlags s.flags (taskMask s.cfg.rxTaskBit) := rfl
@[simp] theorem exportPacket_txTrace (s : State) : (exportPacket s).txTrace = s.txTrace := rfl
@[simp] theorem exportPacket_cleanTrace (s : State) : (exportPacket s).cleanTrace = s.cleanTrace := rfl
@[simp] theorem exportPacket_inbox (s : State) : (exportPacket s).inbox = s.inbox := rfl
@[simp] theorem exportPacket_answers (s : State) : (exportPacket s).answers = s.answers := rfl
@[simp] theorem exportPacket_draws (s : State) : (exportPacket s).draws = s.draws := rfl

@[simp] theorem rxByteDone_cfg (s : State) : (rxByteDone s).cfg = s.cfg := rfl
@[simp] theorem rxByteDone_rdata (s : State) : (rxByteDone s).rdata = s.rdata := rfl
@[simp] theorem rxByteDone_ie (s : State) : (rxByteDone s).ie = s.ie := rfl
@[simp] theorem rxByteDone_txEn (s : State) : (rxByteDone s).txEn = s.txEn := rfl
@[simp] theorem rxByteDone_rxEn (s : State) : (rxByteDone s).rxEn = s.rxEn := rfl
@[simp] theorem rxByteDone_mode (s : State) : (rxByteDone s).mode = s.mode := rfl
@[simp] theorem rxByteDone_fault (s : State) : (rxByteDone s).fault = s.fault := rfl
@[simp] theorem rxByteDone_txState (s : State) : (rxByteDone s).txState = s.txState := rfl
@[simp] theorem rxByteDone_txPreCnt (s : State) : (rxByteDone s).txPreCnt = s.txPreCnt := rfl
@[simp] theorem rxByteDone_txExtCnt (s : State) : (rxByteDone s).txExtCnt = s.txExtCnt := rfl
@[simp] theorem rxByteDone_txByteIdx (s : State) : (rxByteDone s).txByteIdx = s.txByteIdx := rfl
@[simp] theorem rxByteDone_txSlot (s : State) : (rxByteDone s).txSlot = s.txSlot := rfl
@[simp] theorem rxByteDone_txMask (s : State) : (rxByteDone s).txMask = s.txMask := rfl
@[simp] theorem rxByteDone_txCurByte (s : State) : (rxByteDone s).txCurByte = s.txCurByte := rfl
@[simp] theorem rxByteDone_txLatch (s : State) : (rxByteDone s).txLatch = s.txLatch := rfl
@[simp] theorem rxByteDone_txPhase (s : State) : (rxByteDone s).txPhase = s.txPhase := rfl
@[simp] theorem rxByteDone_txPin (s : State) : (rxByteDone s).txPin = s.txPin := rfl
@[simp] theorem rxByteDone_slot0 (s : State) : (rxByteDone s).slot0 = s.slot0 := rfl
@[simp] theorem rxByteDone_slot1 (s : State) : (rxByteDone s).slot1 = s.slot1 := rfl
@[simp] theorem rxByteDone_rxState (s : State) : (rxByteDone s).rxState = .endBit := rfl
@[simp] theorem rxByteDone_rxOnes (s : State) : (rxByteDone s).rxOnes = s.rxOnes := rfl
@[simp] theorem rxByteDone_rxBitCnt (s : State) : (rxByteDone s).rxBitCnt = 0 := rfl
@[simp] theorem rxByteDone_rxByteCnt (s : State) : (rxByteDone s).rxByteCnt = BitVec.ofNat 8 (min (s.rxByteCnt.toNat + 1) 7) := rfl
@[simp] theorem rxByteDone_rxAcc (s : State) : (rxByteDone s).rxAcc = s.rxAcc := rfl
@[simp] theorem rxByteDone_rxScratch (s : State) : (rxByteDone s).rxScratch = (if s.rxByteCnt.toNat < 6 then s.rxScratch.write s.rxByteCnt.toNat s.rxAcc else s.rxScratch) := rfl
@[simp] theorem rxByteDone_rxStart (s : State) : (rxByteDone s).rxStart = s.rxStart := rfl
@[simp] theorem rxByteDone_rxDiag (s : State) : (rxByteDone s).rxDiag = s.rxDiag := rfl
@[simp] theorem rxByteDone_cleanPin (s : State) : (rxByteDone s).cleanPin = s.cleanPin := rfl
@[simp] theorem rxByteDone_exported (s : State) : (rxByteDone s).exported = s.exported := rfl
@[simp] theorem rxByteDone_flags (s : State) : (rxByteDone s).flags = s.flags := rfl
@[simp] theorem rxByteDone_txTrace (s : State) : (rxByteDone s).txTrace = s.txTrace := rfl
@[simp] theorem rxByteDone_cleanTrace (s : State) : (rxByteDone s).cleanTrace = s.cleanTrace := rfl
@[simp] theorem rxByteDone_inbox (s : State) : (rxByteDone s).inbox = s.inbox := rfl
@[simp] theorem rxByteDone_answers (s : State) : (rxByteDone s).answers = s.answers := rfl
@[simp] theorem rxByteDone_draws (s : State) : (rxByteDone s).draws = s.draws := rfl

@[simp] theorem resetState_cfg (s : State) : (resetState s).cfg = s.cfg := rfl
@[simp] theorem resetState_rdata (s : State) : (resetState s).rdata = 0 := rfl
@[simp] theorem resetState_ie (s : State) : (resetState s).ie = false := rfl
@[simp] theorem resetState_txEn (s : State) : (resetState s).txEn = false := rfl
@[simp] theorem resetState_rxEn (s : State) : (resetState s).rxEn = false := rfl
@[simp] theorem resetState_mode (s : State) : (resetState s).mode = true := rfl
@[simp] theorem resetState_fault (s : State) : (resetState s).fault = 0 := rfl
@[simp] theorem resetState_txState (s : State) : (resetState s).txState = .preamble := rfl
@[simp] theorem resetState_txPreCnt (s : State) : (resetState s).txPreCnt = s.cfg.preambleBits := rfl
@[simp] theorem resetState_txExtCnt (s : State) : (resetState s).txExtCnt = 0 := rfl
@[simp] theorem resetState_txByteIdx (s : State) : (resetState s).txByteIdx = 0 := rfl
@[simp] theorem resetState_txSlot (s : State) : (resetState s).txSlot = false := rfl
@[simp] theorem resetState_txMask (s : State) : (resetState s).txMask = 0 := rfl
@[simp] theorem resetState_txCurByte (s : State) : (resetState s).txCurByte = 0 := rfl
@[simp] theorem resetState_txLatch (s : State) : (resetState s).txLatch = .short := rfl
@[simp] theorem resetState_txPhase (s : State) : (resetState s).txPhase = .advance := rfl
@[simp] theorem resetState_txPin (s : State) : (resetState s).txPin = false := rfl
@[simp] theorem resetState_slot0 (s : State) : (resetState s).slot0 = ⟨Cells.zero, 0, 0⟩ := rfl
@[simp] theorem resetState_slot1 (s : State) : (resetState s).slot1 = ⟨Cells.ofList s.cfg.idlePacket, BitVec.ofNat 8 s.cfg.idlePacket.length, 0⟩ := rfl
@[simp] theorem resetState_rxState (s : State) : (resetState s).rxState = .preamble := rfl
@[simp] theorem resetState_rxOnes (s : State) : (resetState s).rxOnes = 0 := rfl
@[simp] theorem resetState_rxBitCnt (s : State) : (resetState s).rxBitCnt = 0 := rfl
@[simp] theorem resetState_rxByteCnt (s : State) : (resetState s).rxByteCnt = 0 := rfl
@[simp] theorem resetState_rxAcc (s : State) : (resetState s).rxAcc = 0 := rfl
@[simp] theorem resetState_rxScratch (s : State) : (resetState s).rxScratch = Cells.zero := rfl
@[simp] theorem resetState_rxStart (s : State) : (resetState s).rxStart = Config.rxStartDraw s.draws := rfl
@[simp] theorem resetState_rxDiag (s : State) : (resetState s).rxDiag = 0 := rfl
@[simp] theorem resetState_cleanPin (s : State) : (resetState s).cleanPin = false := rfl
@[simp] theorem resetState_exported (s : State) : (resetState s).exported = ⟨Cells.zero, 0⟩ := rfl
@[simp] theorem resetState_flags (s : State) : (resetState s).flags = 0 := rfl
@[simp] theorem resetState_txTrace (s : State) : (resetState s).txTrace = s.txTrace := rfl
@[simp] theorem resetState_cleanTrace (s : State) : (resetState s).cleanTrace = s.cleanTrace := rfl
@[simp] theorem resetState_inbox (s : State) : (resetState s).inbox = s.inbox := rfl
@[simp] theorem resetState_answers (s : State) : (resetState s).answers = s.answers := rfl
@[simp] theorem resetState_draws (s : State) : (resetState s).draws = s.draws + 1 := rfl

end Sys2Proof.Machine
end

