-- ==== Sys2Proof/Laws/Ops.lean ====
section
/-! SUPPORT. What each shared operation can do, said once. -/
namespace Sys2Proof.Machine

/-- An enabled operation of a state without a fault has its effect. -/
theorem whenEnabled_effect {s : State} {e : Bool} {r : Result} (hf : s.fault = 0) (he : e = true) :
    whenEnabled s e r = r := by
  simp [whenEnabled, hf, he]

/-- An operation that is not enabled leaves a state without a fault as it is. -/
theorem whenEnabled_masked {s : State} {e : Bool} {r : Result} (hf : s.fault = 0) (he : e = false) :
    whenEnabled s e r = .next s := by
  simp [whenEnabled, hf, he]

/-- With a fault there is no step. -/
theorem whenEnabled_halted {s : State} {e : Bool} {r : Result} (hf : s.fault ≠ 0) :
    whenEnabled s e r = .fault .halted :=
  if_pos hf

/-- If a gated operation answers a next state, there was no fault, and it had its effect or was masked. -/
theorem whenEnabled_next {s t : State} {e : Bool} {r : Result} (h : whenEnabled s e r = .next t) :
    s.fault = 0 ∧ (e = true ∧ r = .next t ∨ e = false ∧ t = s) := by
  unfold whenEnabled at h
  split at h
  · cases h
  · refine ⟨by simpa using ‹¬ s.fault ≠ 0›, ?_⟩
    split at h
    · exact .inl ⟨‹_›, h⟩
    · exact .inr ⟨by simpa using ‹¬ e = true›, by simpa using h.symm⟩

/-- A raised fault answers the state it was raised in with `FAULT` written. -/
theorem raiseFault_next {c : FaultCode} {s t : State} (h : raiseFault c s = .next t) :
    t = { s with fault := c.code } := by
  simpa [raiseFault] using h.symm

/-- A read latches the cell it names, or raises `ILLEGAL_OP`. -/
theorem latchRead_next {s t : State} {o : Option Byte} (h : latchRead s o = .next t) :
    (∃ v, o = some v ∧ t = { s with rdata := v }) ∨ (o = none ∧ t = { s with fault := 0x01 }) := by
  cases o with
  | some v => exact .inl ⟨v, rfl, by simpa [latchRead] using h.symm⟩
  | none => exact .inr ⟨rfl, raiseFault_next h⟩

/-- Replacing a slot, as one record update. -/
theorem setSlot_eq (s : State) (k : Bool) (m : Slot) :
    s.setSlot k m = { s with slot0 := if k then s.slot0 else m, slot1 := if k then m else s.slot1 } := by
  cases k <;> rfl

/-- Taking an answer of the message source moves only the model's own fields. -/
theorem takeAnswer_state (s : State) :
    (takeAnswer s).2 = { s with answers := (takeAnswer s).2.answers, draws := (takeAnswer s).2.draws } := by
  unfold takeAnswer
  cases s.answers <;> rfl

/-- An answer writes slot 0 or nothing. -/
theorem acceptAnswer_eq (a : SourceAnswer) (s : State) :
    acceptAnswer a s = { s with slot0 := if a.ready then a.msg.getD s.slot0 else s.slot0 } := by
  unfold acceptAnswer
  rcases a with ⟨_ | _, _ | m⟩ <;> rfl

/-- What an ADVANCE half-cell can answer: the bit TxStep begins, or the state with `TX_BAD_SIZE`. -/
theorem advanceHalf_next {s t : State} (h : advanceHalf s = .next t) :
    (∃ d u, txStep s = .sends d u ∧ t = driveHalf false d { u with txLatch := d, txPhase := .hold }) ∨
      (txStep s = .badSize ∧ t = { s with fault := 0x02 }) := by
  unfold advanceHalf at h
  split at h
  · exact .inl ⟨_, _, ‹_›, by simpa using h.symm⟩
  · exact .inr ⟨‹_›, raiseFault_next h⟩
  · cases h

/-- The sizes the encoder sends. -/
theorem sizeOk_iff (n : Byte) : sizeOk n = true ↔ 3 ≤ n.toNat ∧ n.toNat ≤ 6 := by
  simp [sizeOk, msgMin, msgMax, BitVec.le_def]

/-- What TXT did where it answers a next state: nothing (masked), a HOLD half-cell, or an ADVANCE half-cell. -/
theorem execTxt_next {s t : State} (h : execTxt s = .next t) : s.fault = 0 ∧
    (s.txtEnabled = false ∧ t = s ∨ s.txtEnabled = true ∧ s.txPhase = .hold ∧ t = holdHalf s ∨
      s.txtEnabled = true ∧ s.txPhase = .advance ∧ advanceHalf s = .next t) := by
  obtain ⟨hf, h⟩ := whenEnabled_next h
  refine ⟨hf, ?_⟩
  rcases h with ⟨he, h⟩ | ⟨he, h⟩
  · split at h
    · exact .inr (.inl ⟨he, ‹_›, by simpa using h.symm⟩)
    · exact .inr (.inr ⟨he, ‹_›, h⟩)
  · exact .inl ⟨he, h⟩

/-- `TxStep()` writes encoder registers, slot 0 and the model's own fields only (41_tx_encoder.md R188). -/
theorem txStep_writes {s u : State} {d : CellTiming} (h : txStep s = .sends d u) :
    u = { s with
      txState := u.txState, txPreCnt := u.txPreCnt, txExtCnt := u.txExtCnt, txByteIdx := u.txByteIdx, txSlot := u.txSlot
      txMask := u.txMask, txCurByte := u.txCurByte, slot0 := u.slot0, answers := u.answers, draws := u.draws } := by
  unfold txStep at h
  split at h
  · simp only [txPreamble, TxOutcome.sends.injEq] at h
    obtain ⟨-, rfl⟩ := h
    split
    · unfold txQuery txReady txUnderrun
      simp only [acceptAnswer_eq]
      rw [takeAnswer_state]
      split <;> split <;> rfl
    · rfl
  · simp only [txExtendPreamble, TxOutcome.sends.injEq] at h
    obtain ⟨-, rfl⟩ := h
    split <;> rfl
  · unfold txSeparator at h
    split at h
    · split at h
      · simp only [TxOutcome.sends.injEq] at h
        obtain ⟨-, rfl⟩ := h
        rfl
      · cases h
    · cases h
  · simp only [txSendByte] at h
    split at h
    · split at h
      · simp only [TxOutcome.sends.injEq] at h
        obtain ⟨-, rfl⟩ := h
        unfold txByteSent
        split <;> rfl
      · cases h
    · simp only [TxOutcome.sends.injEq] at h
      obtain ⟨-, rfl⟩ := h
      rfl

/-- `RxStep(b)` writes decoder registers, the exported buffer and `FLAGS` only (42_rx_decoder.md R229). -/
theorem rxStep_writes (b : Bool) (s : State) :
    rxStep b s = { s with
      rxState := (rxStep b s).rxState, rxOnes := (rxStep b s).rxOnes, rxBitCnt := (rxStep b s).rxBitCnt
      rxByteCnt := (rxStep b s).rxByteCnt, rxAcc := (rxStep b s).rxAcc, rxScratch := (rxStep b s).rxScratch
      exported := (rxStep b s).exported, flags := (rxStep b s).flags } := by
  unfold rxStep
  split
  · unfold rxPreamble
    split
    · split <;> rfl
    · rfl
  · unfold rxStartBit
    split <;> rfl
  · simp only [rxData]
    split <;> rfl
  · unfold rxEndBit
    split
    · split <;> rfl
    · rfl

/-- `RxStep(b)` leaves the exported buffer, or exports a valid packet and sets its task's flag (42_rx_decoder.md R224). -/
theorem rxStep_exported (b : Bool) (s : State) :
    (rxStep b s).exported = s.exported ∧ (rxStep b s).flags = s.flags ∨
      s.rxState = .endBit ∧ b = true ∧ validPacket s.rxScratch s.rxByteCnt = true ∧
        (rxStep b s).exported = ⟨s.rxScratch, s.rxByteCnt⟩ ∧
        (rxStep b s).flags = setFlags s.flags (taskMask s.cfg.rxTaskBit) := by
  unfold rxStep
  split
  · unfold rxPreamble
    split
    · split <;> exact .inl ⟨rfl, rfl⟩
    · exact .inl ⟨rfl, rfl⟩
  · unfold rxStartBit
    split <;> exact .inl ⟨rfl, rfl⟩
  · simp only [rxData]
    split <;> exact .inl ⟨rfl, rfl⟩
  · unfold rxEndBit
    split
    · split
      · exact .inr ⟨‹_›, ‹_›, ‹_›, rfl, rfl⟩
      · exact .inl ⟨rfl, rfl⟩
    · exact .inl ⟨rfl, rfl⟩

/-- A rising edge, as one record update (42_rx_decoder.md R211 to R213). -/
theorem edgeStep_rising (time : Ticks) (s : State) :
    edgeStep true time s = { s with
      rxStart := time, rxDiag := s.rxDiag + 1
      cleanPin := if s.mode then true else s.cfg.forcedLevel
      cleanTrace := s.cleanTrace ++ [if s.mode then true else s.cfg.forcedLevel] } :=
  rfl

/-! The fields that `RxStep(b)` leaves as they are. -/

@[simp] theorem rxStep_cfg (b : Bool) (s : State) : (rxStep b s).cfg = s.cfg := by rw [rxStep_writes]
@[simp] theorem rxStep_rdata (b : Bool) (s : State) : (rxStep b s).rdata = s.rdata := by rw [rxStep_writes]
@[simp] theorem rxStep_ie (b : Bool) (s : State) : (rxStep b s).ie = s.ie := by rw [rxStep_writes]
@[simp] theorem rxStep_txEn (b : Bool) (s : State) : (rxStep b s).txEn = s.txEn := by rw [rxStep_writes]
@[simp] theorem rxStep_rxEn (b : Bool) (s : State) : (rxStep b s).rxEn = s.rxEn := by rw [rxStep_writes]
@[simp] theorem rxStep_mode (b : Bool) (s : State) : (rxStep b s).mode = s.mode := by rw [rxStep_writes]
@[simp] theorem rxStep_fault (b : Bool) (s : State) : (rxStep b s).fault = s.fault := by rw [rxStep_writes]
@[simp] theorem rxStep_txState (b : Bool) (s : State) : (rxStep b s).txState = s.txState := by rw [rxStep_writes]
@[simp] theorem rxStep_txPreCnt (b : Bool) (s : State) : (rxStep b s).txPreCnt = s.txPreCnt := by rw [rxStep_writes]
@[simp] theorem rxStep_txExtCnt (b : Bool) (s : State) : (rxStep b s).txExtCnt = s.txExtCnt := by rw [rxStep_writes]
@[simp] theorem rxStep_txByteIdx (b : Bool) (s : State) : (rxStep b s).txByteIdx = s.txByteIdx := by rw [rxStep_writes]
@[simp] theorem rxStep_txSlot (b : Bool) (s : State) : (rxStep b s).txSlot = s.txSlot := by rw [rxStep_writes]
@[simp] theorem rxStep_txMask (b : Bool) (s : State) : (rxStep b s).txMask = s.txMask := by rw [rxStep_writes]
@[simp] theorem rxStep_txCurByte (b : Bool) (s : State) : (rxStep b s).txCurByte = s.txCurByte := by rw [rxStep_writes]
@[simp] theorem rxStep_txLatch (b : Bool) (s : State) : (rxStep b s).txLatch = s.txLatch := by rw [rxStep_writes]
@[simp] theorem rxStep_txPhase (b : Bool) (s : State) : (rxStep b s).txPhase = s.txPhase := by rw [rxStep_writes]
@[simp] theorem rxStep_txPin (b : Bool) (s : State) : (rxStep b s).txPin = s.txPin := by rw [rxStep_writes]
@[simp] theorem rxStep_slot0 (b : Bool) (s : State) : (rxStep b s).slot0 = s.slot0 := by rw [rxStep_writes]
@[simp] theorem rxStep_slot1 (b : Bool) (s : State) : (rxStep b s).slot1 = s.slot1 := by rw [rxStep_writes]
@[simp] theorem rxStep_rxStart (b : Bool) (s : State) : (rxStep b s).rxStart = s.rxStart := by rw [rxStep_writes]
@[simp] theorem rxStep_rxDiag (b : Bool) (s : State) : (rxStep b s).rxDiag = s.rxDiag := by rw [rxStep_writes]
@[simp] theorem rxStep_cleanPin (b : Bool) (s : State) : (rxStep b s).cleanPin = s.cleanPin := by rw [rxStep_writes]
@[simp] theorem rxStep_txTrace (b : Bool) (s : State) : (rxStep b s).txTrace = s.txTrace := by rw [rxStep_writes]
@[simp] theorem rxStep_cleanTrace (b : Bool) (s : State) : (rxStep b s).cleanTrace = s.cleanTrace := by rw [rxStep_writes]
@[simp] theorem rxStep_inbox (b : Bool) (s : State) : (rxStep b s).inbox = s.inbox := by rw [rxStep_writes]
@[simp] theorem rxStep_answers (b : Bool) (s : State) : (rxStep b s).answers = s.answers := by rw [rxStep_writes]
@[simp] theorem rxStep_draws (b : Bool) (s : State) : (rxStep b s).draws = s.draws := by rw [rxStep_writes]

/-- A falling edge, as one record update over `RxStep` of the bit it classifies (42_rx_decoder.md R210). -/
theorem edgeStep_falling (time : Ticks) (s : State) :
    edgeStep false time s =
      let t := rxStep (classify s.cfg (time - s.rxStart)) (cleanOut false { s with rxDiag := s.rxDiag + 1 })
      { t with rxDiag := if t.rxState = s.rxState then s.rxDiag + 1 else 0 } := by
  apply State.ext <;> first | rfl | skip
  show (if _ then _ else _) = _
  simp

/-- What an edge writes (42_rx_decoder.md R229). -/
theorem edgeStep_writes (level : Bool) (time : Ticks) (s : State) :
    edgeStep level time s = { s with
      rxState := (edgeStep level time s).rxState, rxOnes := (edgeStep level time s).rxOnes
      rxBitCnt := (edgeStep level time s).rxBitCnt, rxByteCnt := (edgeStep level time s).rxByteCnt
      rxAcc := (edgeStep level time s).rxAcc, rxScratch := (edgeStep level time s).rxScratch
      rxStart := (edgeStep level time s).rxStart, rxDiag := (edgeStep level time s).rxDiag
      cleanPin := (edgeStep level time s).cleanPin, cleanTrace := (edgeStep level time s).cleanTrace
      exported := (edgeStep level time s).exported, flags := (edgeStep level time s).flags } := by
  cases level with
  | true => rfl
  | false =>
    rw [edgeStep_falling]
    apply State.ext <;> simp

end Sys2Proof.Machine
end

