-- ==== Sys2Proof/Laws/PerInstr.lean ====
section
/-! SUPPORT. Statements about every operation as syntax, one lemma per constructor: the opcode field of its word is the
opcode map's (30_encoding.md R127, R136). -/
namespace Sys2Proof.Laws.Opcode

/-- Bits 31:28 of an operation's word are its opcode. -/
def Statement (i : Instr) : Prop := wordField (encode i) 28 4 = i.opcode

/-- The opcode field is the number of the word divided by 2^28. -/
theorem of_div {i : Instr} (h : encodeNat i / 2 ^ 28 = i.opcode.toNat) : Statement i := by
  apply BitVec.eq_of_toNat_eq
  rw [wordField_toNat, encode_toNat, h, Nat.mod_eq_of_lt i.opcode.isLt]

theorem txt : Statement .txt := of_div (by decide)
theorem rxe (level : Bool) (time : Ticks) : Statement (.rxe level time) :=
  of_div (by have := time.isLt; cases level <;> simp [encodeNat, Instr.opcode] <;> omega)
theorem req (bit : BitVec 3) : Statement (.req bit) := of_div (by revert bit; decide)
theorem clr (bit : BitVec 3) : Statement (.clr bit) := of_div (by revert bit; decide)
theorem sel : Statement .sel := of_div (by decide)
theorem rdx (index : BitVec 4) : Statement (.rdx index) := of_div (by revert index; decide)
theorem wrs (slot : Bool) (index : BitVec 4) (value : Byte) : Statement (.wrs slot index value) :=
  of_div (by
    have := index.isLt
    have := value.isLt
    cases slot <;> simp [encodeNat, Instr.opcode] <;> omega)
theorem mode (value : Bool) : Statement (.mode value) := of_div (by revert value; decide)
theorem cli : Statement .cli := of_div (by decide)
theorem sei : Statement .sei := of_div (by decide)
theorem txen (value : Bool) : Statement (.txen value) := of_div (by revert value; decide)
theorem rxen (value : Bool) : Statement (.rxen value) := of_div (by revert value; decide)
theorem rdr (number : Byte) : Statement (.rdr number) :=
  of_div (by have := number.isLt; simp [encodeNat, Instr.opcode]; omega)
theorem reset : Statement .reset := of_div (by decide)

end Sys2Proof.Laws.Opcode
end

