-- ==== Sys2Proof/Machine/Assembler.lean ====
section
/-! DEFINITION. The assembler syntax of 30_encoding.md R141 and R142: one line of text to the operations it stands for. -/
namespace Sys2Proof.Machine

/-- The value of one digit, decimal or hexadecimal. -/
def digitValue (c : Char) : Option Nat :=
  if 48 ≤ c.toNat ∧ c.toNat ≤ 57 then some (c.toNat - 48)
  else if 65 ≤ c.toNat ∧ c.toNat ≤ 70 then some (c.toNat - 55)
  else if 97 ≤ c.toNat ∧ c.toNat ≤ 102 then some (c.toNat - 87)
  else none

/-- The number written with digits of a base; none for no digits or a digit outside the base. -/
def readDigits (base : Nat) : Nat → List Char → Option Nat
  | _, [] => none
  | acc, [c] => (digitValue c).bind fun d => if d < base then some (acc * base + d) else none
  | acc, c :: c' :: cs => (digitValue c).bind fun d => if d < base then readDigits base (acc * base + d) (c' :: cs) else none

/-- "Numbers are decimal or `0x` hexadecimal" (30_encoding.md R141). -/
def readNumber : List Char → Option Nat
  | '0' :: 'x' :: cs => readDigits 16 0 cs
  | cs => readDigits 10 0 cs

/-- An operand: one of the given names, or a number from 0 to `last`. -/
def readOperand (names : List (String × Nat)) (last : Nat) (text : List Char) : Option Nat :=
  match names.find? (fun n => n.1.toList == text) with
  | some n => some n.2
  | none => (readNumber text).bind fun v => if v ≤ last then some v else none

/-- Names of an edge level. -/
def levelNames : List (String × Nat) := [("FALL", 0), ("RISE", 1)]

/-- Names of the tasks by bit index. -/
def taskNames : List (String × Nat) :=
  [("TASK0", 7), ("TASK1", 6), ("TASK2", 5), ("TASK3", 4), ("TASK4", 3), ("TASK5", 2), ("TASK6", 1), ("IDLE", 0)]

/-- Names of the clean-output modes. -/
def modeNames : List (String × Nat) := [("DC", 0), ("MODEM", 1)]

/-- The names `base[0]` to `base[5]` of a six-cell array from register number `n` on. -/
def cellNames (base : String) (n : Nat) : List (String × Nat) :=
  [(base ++ "[0]", n), (base ++ "[1]", n + 1), (base ++ "[2]", n + 2), (base ++ "[3]", n + 3), (base ++ "[4]", n + 4),
    (base ++ "[5]", n + 5)]

/-- Register names (10_state.md R66), `_LO` and `_HI` appended for the 16-bit ones (30_encoding.md R141). -/
def registerNames : List (String × Nat) :=
  [("FLAGS", 0x00), ("STATUS", 0x01), ("TX_STATE", 0x02), ("TX_PRE_CNT", 0x03), ("TX_EXT_CNT", 0x04),
    ("TX_BYTE_IDX", 0x05), ("TX_SLOT", 0x06), ("TX_MASK", 0x07), ("TX_CUR_BYTE", 0x08), ("TX_LATCH", 0x09),
    ("RX_STATE", 0x0A), ("RX_ONES", 0x0B), ("RX_BITCNT", 0x0C), ("RX_BYTECNT", 0x0D), ("RX_ACC", 0x0E),
    ("RX_START_LO", 0x0F), ("RX_START_HI", 0x10), ("RX_DIAG_LO", 0x11), ("RX_DIAG_HI", 0x12)] ++
  cellNames "RX_SCRATCH" 0x13 ++
  cellNames "SLOT[0].DATA" 0x20 ++ [("SLOT[0].SIZE", 0x26), ("SLOT[0].PRE", 0x27)] ++
  cellNames "SLOT[1].DATA" 0x28 ++ [("SLOT[1].SIZE", 0x2E), ("SLOT[1].PRE", 0x2F)] ++
  cellNames "EXP_DATA" 0x30 ++ [("EXP_SIZE", 0x36)]

/-- An operand of one bit. -/
def readBit (names : List (String × Nat)) (text : List Char) : Option Bool :=
  (readOperand names 1 text).map (· == 1)

/-- An operand that is a register number or name; a reserved number is not one (10_state.md R66). -/
def readRegister (text : List Char) : Option Byte :=
  (readOperand registerNames 0xFF text).bind fun r =>
    if regMapped (BitVec.ofNat 8 r) then some (BitVec.ofNat 8 r) else none

/-- The operands of a byte list. -/
def readBytes : List (List Char) → Option (List Byte)
  | [] => some []
  | t :: ts => (readOperand [] 0xFF t).bind fun v => (readBytes ts).map (BitVec.ofNat 8 v :: ·)

/-- One operation from its mnemonic and operand texts (30_encoding.md R141). -/
def assembleOp (mnemonic : String) (operands : List (List Char)) : Option Instr :=
  match mnemonic, operands with
  | "TXT", [] => some .txt
  | "RXE", [l, t] =>
    (readBit levelNames l).bind fun level => (readOperand [] 0xFFFF t).map fun v => .rxe level (BitVec.ofNat 16 v)
  | "REQ", [t] => (readOperand taskNames 7 t).map fun b => .req (BitVec.ofNat 3 b)
  | "CLR", [t] => (readOperand taskNames 7 t).map fun b => .clr (BitVec.ofNat 3 b)
  | "SEL", [] => some .sel
  | "RDX", [i] => (readOperand [("SIZE", 6)] 5 i).map fun n => .rdx (BitVec.ofNat 4 n)
  | "WRS", [s, i, v] =>
    (readBit [] s).bind fun slot => (readOperand [("SIZE", 6), ("PRE", 7)] 5 i).bind fun n =>
      (readOperand [] 0xFF v).map fun b => .wrs slot (BitVec.ofNat 4 n) (BitVec.ofNat 8 b)
  | "MODE", [y] => (readBit modeNames y).map .mode
  | "CLI", [] => some .cli
  | "SEI", [] => some .sei
  | "TXEN", [y] => (readBit [] y).map .txen
  | "RXEN", [y] => (readBit [] y).map .rxen
  | "RDR", [r] => (readRegister r).map .rdr
  | "RESET", [] => some .reset
  | _, _ => none

/-- One pseudo-operation from its name and operand texts (30_encoding.md R142). -/
def assemblePseudo (name : String) (operands : List (List Char)) : Option Pseudo :=
  match name, operands with
  | "LOADMSG", s :: bs => (readBit [] s).bind fun slot => (readBytes bs).map (.loadMsg slot)
  | "LOADPKT", s :: bs => (readBit [] s).bind fun slot => (readBytes bs).map (.loadPkt slot)
  | "START", [] => some .start
  | "READPKT", [] => some .readPkt
  | "ACK", [t] => (readOperand taskNames 7 t).map fun b => .ack (BitVec.ofNat 3 b)
  | _, _ => none

/-- The operand texts of a line's rest: separated by commas, blanks dropped; no text is no operand. -/
def splitOperands (rest : List Char) : List (List Char) :=
  let text := rest.filter (· != ' ')
  if text.isEmpty then [] else text.splitOn ','

/-- One line of assembler text to the operations it stands for, a pseudo-operation expanded. -/
def assembleLine (line : String) : Option (List Instr) :=
  let mnemonic := String.ofList (line.toList.takeWhile (· != ' '))
  let operands := splitOperands (line.toList.dropWhile (· != ' '))
  match assembleOp mnemonic operands with
  | some i => some [i]
  | none => (assemblePseudo mnemonic operands).bind expandPseudo

end Sys2Proof.Machine
end

