-- ==== Sys2Proof/Tests/Slice0.lean ====
section
/-! SUPPORT. Tests of the model against the spec's own examples and vectors (95_test_vectors.md), and for every statement
with hypotheses a state and operands that meet them. Each expected value is the spec's, cited by its vector or rule. -/
namespace Sys2Proof.Tests
open Sys2Proof Sys2Proof.Machine

/-- A booted state (95_test_vectors.md, conventions) at concrete values of the open parameters and of the reset draw. -/
def booted : State :=
  { State.reset with
    cfg := { Params.standard with underrunPolicy := .stretch, forcedLevel := false }
    ie := true, txEn := true, rxEn := true, rxStart := 0 }

/-- What a result's next state shows; none where there is none. -/
def shows {α : Type} (r : Result) (view : State → α) : Option α :=
  match r with
  | .next t => some (view t)
  | .fault _ => none
  | .refused _ => none

/-- The message 03 05 06 of the spec's vectors, with a given preamble request. -/
def message (pre : Byte) : Slot := ⟨⟨0x03, 0x05, 0x06, 0, 0, 0⟩, 3, pre⟩

/-! ## WellFormed: each check refuses an ill-formed term and admits its neighbour -/

theorem test_wf_rdx : (Instr.rdx 7).defect = some .rdxIndex ∧ (Instr.rdx 15).defect = some .rdxIndex ∧ (Instr.rdx 6).WellFormed := by
  decide
theorem test_wf_wrs :
    (Instr.wrs false 8 0).defect = some .wrsIndex ∧ (Instr.wrs true 15 1).defect = some .wrsIndex ∧ (Instr.wrs true 7 0xFF).WellFormed := by
  decide
theorem test_wf_rdr :
    (Instr.rdr 0x19).defect = some .rdrNumber ∧ (Instr.rdr 0x1F).defect = some .rdrNumber ∧
      (Instr.rdr 0x37).defect = some .rdrNumber ∧ (Instr.rdr 0x18).WellFormed ∧ (Instr.rdr 0x20).WellFormed ∧
      (Instr.rdr 0x36).WellFormed := by
  decide

/-! ## Decode: every constructor's word, written out from the formats of 30_encoding.md R128 and the map of R136 -/

theorem test_decode_txt : decode .timer 0b0001_0000_0000_0000_0000_0000_0000_0000 = .op .txt := by decide
theorem test_decode_rxe :
    decode .edge 0b0010_1000_0000_0000_0001_0010_0011_0100 = .op (.rxe true 0x1234) ∧
      decode .edge 0b0010_0000_0000_0000_0000_0000_1110_1000 = .op (.rxe false 232) := by decide
theorem test_decode_req : decode .main 0b0011_0000_0000_0000_0000_0000_0000_0111 = .op (.req 7) := by decide
theorem test_decode_clr : decode .main 0b0100_0000_0000_0000_0000_0000_0000_0001 = .op (.clr 1) := by decide
theorem test_decode_sel : decode .main 0b0101_0000_0000_0000_0000_0000_0000_0000 = .op .sel := by decide
theorem test_decode_rdx : decode .main 0b0110_0000_0000_0000_0000_0000_0000_0110 = .op (.rdx 6) := by decide
theorem test_decode_wrs :
    decode .main 0b0111_0001_0000_0000_0000_0010_1111_1111 = .op (.wrs true 2 0xFF) ∧
      decode .main 0b0111_0000_0000_0000_0000_0111_0001_0100 = .op (.wrs false 7 20) := by decide
theorem test_decode_mode : decode .main 0b1000_0000_0000_0000_0000_0000_0000_0001 = .op (.mode true) := by decide
theorem test_decode_cli : decode .main 0b1001_0000_0000_0000_0000_0000_0000_0000 = .op .cli := by decide
theorem test_decode_sei : decode .main 0b1010_0000_0000_0000_0000_0000_0000_0000 = .op .sei := by decide
theorem test_decode_txen : decode .main 0b1011_0000_0000_0000_0000_0000_0000_0001 = .op (.txen true) := by decide
theorem test_decode_rxen : decode .main 0b1100_0000_0000_0000_0000_0000_0000_0000 = .op (.rxen false) := by decide
theorem test_decode_rdr : decode .main 0b1101_0000_0000_0000_0000_0000_0011_0110 = .op (.rdr 0x36) := by decide
theorem test_decode_reset :
    decode .main 0b1110_0000_0000_0000_0000_0000_0000_0000 = .op .reset ∧
      decode .rst 0b1110_0000_0000_0000_0000_0000_0000_0000 = .op .reset := by decide

/-- 95_test_vectors.md V-FL1 to V-FL10 and V-FL14, and the reason decode gives. -/
theorem test_decode_reserved :
    decode .main 0x00000000 = .illegal .reservedOpcode ∧ decode .main 0xF0000000 = .illegal .reservedOpcode ∧
      decode .main 0x30000008 = .illegal .mustBeZero ∧ decode .main 0x60000007 = .illegal .indexOutOfRange ∧
      decode .main 0x70000800 = .illegal .indexOutOfRange ∧ decode .main 0x72000000 = .illegal .mustBeZero ∧
      decode .main 0x80000002 = .illegal .mustBeZero ∧ decode .main 0x50000001 = .illegal .mustBeZero ∧
      decode .main 0xD0000019 = .illegal .reservedRegister ∧ decode .main 0xD0000037 = .illegal .reservedRegister ∧
      decode .edge 0x20010000 = .illegal .mustBeZero := by decide

/-- V-FL11, V-FL12, V-FL13, V-FL15: the agent is not entitled. -/
theorem test_decode_agent :
    decode .main 0x10000000 = .illegal .agentNotEntitled ∧ decode .timer 0x30000007 = .illegal .agentNotEntitled ∧
      decode .edge 0x10000000 = .illegal .agentNotEntitled ∧ decode .rst 0x50000000 = .illegal .agentNotEntitled := by decide

/-- The encoder gives the words of 30_encoding.md R141. -/
theorem test_encode :
    encode (.req 7) = 0x30000007 ∧ encode (.clr 1) = 0x40000001 ∧ encode (.rxe true 0x1234) = 0x28001234 ∧
      encode (.rxe false 232) = 0x200000E8 ∧ encode (.wrs false 6 3) = 0x70000603 ∧
      encode (.wrs true 2 0xFF) = 0x710002FF ∧ encode (.rdr 0x36) = 0xD0000036 ∧ encode (.mode true) = 0x80000001 ∧
      encode .sel = 0x50000000 := by decide

/-- The table's bits through the host's door: the agent of the opcode map is used. -/
theorem test_decodeTableWord :
    decodeTableWord 32 0x10000000 = some .txt ∧ decodeTableWord 32 0x28001234 = some (.rxe true 0x1234) ∧
      decodeTableWord 32 0xE0000000 = some .reset ∧ decodeTableWord 32 0xF0000000 = none := by decide

/-! ## Assembler (30_encoding.md R141, R142) -/

theorem test_assemble_tasks :
    assembleLine "REQ TASK0" = some [.req 7] ∧ assembleLine "CLR 1" = some [.clr 1] ∧ assembleLine "SEL" = some [.sel] := by
  decide
theorem test_assemble_edges :
    assembleLine "RXE RISE, 0x1234" = some [.rxe true 0x1234] ∧ assembleLine "RXE FALL, 232" = some [.rxe false 232] := by
  decide
theorem test_assemble_host :
    assembleLine "WRS 0, SIZE, 3" = some [.wrs false 6 3] ∧ assembleLine "WRS 1, 2, 0xFF" = some [.wrs true 2 0xFF] ∧
      assembleLine "RDR EXP_SIZE" = some [.rdr 0x36] ∧ assembleLine "MODE MODEM" = some [.mode true] := by decide
theorem test_assemble_rejects :
    assembleLine "RDX 6" = none ∧ assembleLine "RDR 0x19" = none ∧ assembleLine "WRS 0, 0, 256" = none ∧
      assembleLine "TXEN 2" = none ∧ assembleLine "LOADMSG 0, 1, 2" = none := by decide
/-- P2: words 1 to 4 are the expansion of `LOADPKT 1, 0x03, 0x05`. -/
theorem test_pseudo_loadpkt :
    assembleLine "LOADPKT 1, 0x03, 0x05" =
      some [.wrs true 0 0x03, .wrs true 1 0x05, .wrs true 2 0x06, .wrs true 6 3] := by decide
theorem test_pseudo_rest :
    assembleLine "START" = some [.txen true, .rxen true, .sei] ∧ assembleLine "ACK TASK0" = some [.clr 7] ∧
      (assembleLine "READPKT").map List.length = some 9 := by decide

/-! ## Bit timing and configurations (V-TM1 to V-TM6) -/

theorem test_timing :
    timing Params.standard .short = 116 ∧ timing Params.standard .long = 232 ∧
      bitCell Params.standard true = [⟨false, 116⟩, ⟨true, 116⟩] ∧ bitCell Params.standard false = [⟨false, 232⟩, ⟨true, 232⟩] ∧
      bitTicks Params.standard .short = 232 ∧ bitTicks Params.standard .long = 464 := by decide
theorem test_illegal_configurations :
    legalConfig { Params.standard with rxThreshold := 232 } = false ∧
      legalConfig { Params.standard with preambleBits := 0 } = false ∧ legalConfig Params.standard = true := by decide

/-! ## One operation at a time -/

/-- V-TX2, the first TXT. -/
theorem test_txt_first :
    shows (exec .txt booted) (fun t => (t.txPreCnt, t.txLatch, t.txPhase, t.txPin, t.txTrace)) =
      some (15, .short, .hold, false, [⟨false, 116⟩]) := by decide
/-- 41_tx_encoder.md R181, its example, and R172's: slot 0 = [03 05 06], byte index 1. -/
theorem test_txt_separator :
    shows (exec .txt { booted with slot0 := message 0, txState := .separator, txByteIdx := 1 })
        (fun t => (t.txCurByte, t.txMask, t.txState, t.txTrace)) =
      some (0x05, 0x80, .sendByte, [⟨false, 232⟩]) := by decide
/-- V-RX1, the tie at 180, the wrap, and V-RX2's rising edge. -/
theorem test_rxe_classifies :
    shows (exec (.rxe false 1180) { booted with rxStart := 1000 }) (·.rxOnes) = some 1 ∧
      shows (exec (.rxe false 1181) { booted with rxStart := 1000 }) (·.rxOnes) = some 0 ∧
      shows (exec (.rxe false 0x0064) { booted with rxStart := 0xFFF0 }) (·.rxOnes) = some 1 ∧
      shows (exec (.rxe true 0xFFF0) booted) (fun t => (t.rxStart, t.rxState, t.rxDiag, t.cleanPin)) =
        some (0xFFF0, .preamble, 1, true) := by decide
/-- 42_rx_decoder.md R223 and R224, their examples: [03 05 06] exports, [FF 00 FE] does not. -/
theorem test_rxe_end_bit :
    shows (exec (.rxe false 116) { booted with rxState := .endBit, rxScratch := (message 0).data, rxByteCnt := 3 })
        (fun t => (t.exported, t.flags, t.rxState)) = some (⟨⟨0x03, 0x05, 0x06, 0, 0, 0⟩, 3⟩, 0x80, .preamble) ∧
      shows (exec (.rxe false 116) { booted with rxState := .endBit, rxScratch := ⟨0xFF, 0, 0xFE, 0, 0, 0⟩, rxByteCnt := 3 })
        (fun t => (t.exported.size, t.flags, t.rxState)) = some (0, 0, .preamble) := by decide
/-- V-SC2, V-SC3. -/
theorem test_req : shows (exec (.req 6) { booted with flags := 0x02 }) (·.flags) = some 0x42 ∧
    shows (exec (.req 7) { booted with flags := 0x80 }) (·.flags) = some 0x80 := by decide
theorem test_clr : shows (exec (.clr 6) { booted with flags := 0x42 }) (·.flags) = some 0x02 ∧
    shows (exec (.clr 3) booted) (·.flags) = some 0x00 := by decide
/-- V-SC1. -/
theorem test_sel :
    ([0x00, 0x01, 0x02, 0x03, 0x42, 0x81, 0xFF] : List Byte).map (fun f => shows (exec .sel { booted with flags := f }) (·.rdata)) =
      ([0x01, 0x01, 0x02, 0x02, 0x40, 0x80, 0x80] : List Byte).map some := by decide
/-- 44_host_ops.md R262, its example. -/
theorem test_rdx :
    shows (exec (.rdx 6) { booted with exported := ⟨⟨0xFF, 0, 0xFF, 0, 0, 0⟩, 3⟩ }) (·.rdata) = some 3 ∧
      shows (exec (.rdx 2) { booted with exported := ⟨⟨0xFF, 0, 0xFF, 0, 0, 0⟩, 3⟩ }) (·.rdata) = some 0xFF := by decide
/-- V-HO3. -/
theorem test_wrs :
    shows (exec (.wrs false 6 3) booted) (·.slot0.size) = some 3 ∧
      shows (exec (.wrs true 2 0xFF) booted) (·.slot1.data) = some ⟨0xFF, 0, 0xFF, 0, 0, 0⟩ ∧
      shows (exec (.wrs false 7 20) booted) (·.slot0.pre) = some 20 := by decide
/-- V-HO2. -/
theorem test_mode : shows (exec (.rdr 0x01) booted) (·.rdata) = some 0x0F ∧
    shows (exec (.mode false) booted) (·.status) = some 0x07 := by decide
theorem test_cli : shows (exec .cli booted) (·.ie) = some false := by decide
theorem test_sei : shows (exec .sei State.reset) (·.ie) = some true := by decide
theorem test_txen : shows (exec (.txen false) booted) (fun t => (t.txEn, t.rxEn)) = some (false, true) := by decide
theorem test_rxen : shows (exec (.rxen false) booted) (fun t => (t.txEn, t.rxEn)) = some (true, false) := by decide
/-- V-HO1 and V-HO4. -/
theorem test_rdr :
    ([0x00, 0x01, 0x02, 0x03, 0x09, 0x0A, 0x26, 0x28, 0x2A, 0x2E, 0x36] : List Byte).map
        (fun r => shows (exec (.rdr r) State.reset) (·.rdata)) =
      ([0x00, 0x08, 0x00, 0x10, 0x01, 0x00, 0x00, 0xFF, 0xFF, 0x03, 0x00] : List Byte).map some ∧
    ([0x0F, 0x10] : List Byte).map (fun r => shows (exec (.rdr r) { booted with rxStart := 0x1234 }) (·.rdata)) =
      [some 0x34, some 0x12] := by decide
/-- V-HO5, its registers. -/
theorem test_reset :
    shows (exec .reset { booted with flags := 0x20, txPreCnt := 11, txTrace := [⟨false, 116⟩, ⟨true, 116⟩] })
      (fun t => (t.status, t.txPreCnt, t.flags, t.txTrace.length)) = some (0x08, 16, 0x00, 2) := by decide

/-- V-FL16 and V-RX13: masked events change nothing. -/
theorem test_masked :
    shows (exec .txt State.reset) (fun t => (t.fault, t.txTrace.length)) = some (0, 0) ∧
      shows (exec (.rxe true 5) { State.reset with ie := true }) (·.rxDiag) = some 0 := by decide
/-- V-FL1 at the reset state, through the step. -/
theorem test_illegal_step :
    shows (step (State.reset.withFetchWord 32 0x00000000)) (fun t => (t.fault, t.flags, t.ie)) = some (1, 0, false) := by decide
/-- A placed word is what the next step runs. -/
theorem test_placed_step :
    shows (step (State.reset.withFetchWord 32 0x30000007)) (fun t => (t.flags, t.inbox)) = some (0x80, []) ∧
      shows (step (State.reset.withFetchWord 32 0x10000000)) (·.txPreCnt) = some 15 := by decide

/-! ## Witnesses: what meets the hypotheses of each statement, each clause at a boundary of its range -/

theorem witness_ResetGivesEveryElementItsResetValue : ∃ s : State, s.fault = 0 := ⟨booted, by decide⟩

/-- The launch state with one word held by MAIN: `REQ TASK0`. -/
def holding : State := { State.reset with inbox := [⟨.main, 0x30000007⟩] }

theorem holding_inv : holding.Inv :=
  ⟨by decide, ⟨by decide, by decide, by decide, by decide, by decide, by decide⟩,
    ⟨by decide, by decide, by decide, by decide, by decide, by decide⟩, .inl rfl, .inl rfl⟩

theorem witness_EveryStepKeepsTheInvariant : ∃ s t : State, s.Inv ∧ step s = .next t :=
  ⟨holding, _, holding_inv, rfl⟩

theorem witness_DecodeOfEncodeIsTheOperation :
    ∀ p ∈ ([(.timer, .txt), (.edge, .rxe true 0xFFFF), (.main, .req 7), (.main, .clr 0), (.main, .sel), (.main, .rdx 6),
      (.main, .wrs true 7 0xFF), (.main, .mode true), (.main, .cli), (.main, .sei), (.main, .txen true),
      (.main, .rxen false), (.main, .rdr 0x18), (.main, .rdr 0x20), (.main, .rdr 0x36), (.main, .reset),
      (.rst, .reset)] : List (Agent × Instr)), p.2.WellFormed ∧ entitled p.1 p.2 = true := by decide

theorem witness_AcceptedWordIsTheWordOfItsOperation : decode .main 0x7100_07FF = .op (.wrs true 7 0xFF) := by decide

/-! One word or two at the edge of each clause of the reserved encodings. -/

theorem witness_ReservedEncodingsAreIllegal_opcodes :
    State.reset.fault = 0 ∧ (0x0FFFFFFF#32).extractLsb' 28 4 = 0x0 ∧ (0xF0000000#32).extractLsb' 28 4 = 0xF := by decide
theorem witness_ReservedEncodingsAreIllegal_N :
    ∀ w ∈ [0x10000001#32, 0x58000000#32, 0x90000001#32, 0xA8000000#32, 0xE0000001#32],
      w.extractLsb' 28 4 ∈ [0x1#4, 0x5#4, 0x9#4, 0xA#4, 0xE#4] ∧ w.extractLsb' 0 28 ≠ 0 := by simp
theorem witness_ReservedEncodingsAreIllegal_E :
    ∀ w ∈ [0x20010000#32, 0x24000000#32], w.extractLsb' 28 4 = 0x2 ∧ w.extractLsb' 16 11 ≠ 0 := by simp
theorem witness_ReservedEncodingsAreIllegal_K :
    ∀ w ∈ [0x30000008#32, 0x48000000#32], w.extractLsb' 28 4 ∈ [0x3#4, 0x4#4] ∧ w.extractLsb' 3 25 ≠ 0 := by simp
theorem witness_ReservedEncodingsAreIllegal_X :
    (∀ w ∈ [0x60000010#32, 0x68000000#32], w.extractLsb' 28 4 = 0x6 ∧ w.extractLsb' 4 24 ≠ 0) ∧
      (∀ w ∈ [0x60000007#32, 0x6000000F#32], w.extractLsb' 28 4 = 0x6 ∧ 7 ≤ (w.extractLsb' 0 4).toNat) := by simp
theorem witness_ReservedEncodingsAreIllegal_W :
    (∀ w ∈ [0x72000000#32, 0x78000000#32], w.extractLsb' 28 4 = 0x7 ∧ w.extractLsb' 25 3 ≠ 0) ∧
      (∀ w ∈ [0x70001000#32, 0x70800000#32], w.extractLsb' 28 4 = 0x7 ∧ w.extractLsb' 12 12 ≠ 0) ∧
      (∀ w ∈ [0x70000800#32, 0x70000F00#32], w.extractLsb' 28 4 = 0x7 ∧ 8 ≤ (w.extractLsb' 8 4).toNat) := by simp
theorem witness_ReservedEncodingsAreIllegal_B :
    ∀ w ∈ [0x80000002#32, 0xB8000000#32, 0xC0000002#32],
      w.extractLsb' 28 4 ∈ [0x8#4, 0xB#4, 0xC#4] ∧ w.extractLsb' 1 27 ≠ 0 := by simp
theorem witness_ReservedEncodingsAreIllegal_G :
    (∀ w ∈ [0xD0000100#32, 0xD8000000#32], w.extractLsb' 28 4 = 0xD ∧ w.extractLsb' 8 20 ≠ 0) ∧
      (∀ w ∈ [0xD0000019#32, 0xD000001F#32], w.extractLsb' 28 4 = 0xD ∧
        0x19 ≤ (w.extractLsb' 0 8).toNat ∧ (w.extractLsb' 0 8).toNat ≤ 0x1F) ∧
      (∀ w ∈ [0xD0000037#32, 0xD00000FF#32], w.extractLsb' 28 4 = 0xD ∧ 0x37 ≤ (w.extractLsb' 0 8).toNat) := by simp

theorem witness_AgentEntitlement : ∃ (i : Instr) (s : State), i.WellFormed ∧ s.fault = 0 := ⟨.wrs true 7 0, booted, by decide⟩

theorem witness_RejectedWordRaisesIllegalOp :
    ∃ (s : State) (d : Delivery) (why : Reject), s.fault = 0 ∧ decode d.agent d.word = .illegal why :=
  ⟨booted, ⟨.rst, 0x50000000⟩, .agentNotEntitled, by decide⟩

theorem witness_StepRunsTheDecodedOperation :
    ∃ (s : State) (d : Delivery) (held : List Delivery) (i : Instr), legalConfig s.cfg = true ∧ s.fault = 0 ∧
      s.inbox = d :: held ∧ decode d.agent d.word = .op i ∧ s.enables i = true :=
  ⟨{ booted with inbox := [⟨.edge, 0x28001234⟩, ⟨.timer, 0x10000000⟩] }, _, _, .rxe true 0x1234, by decide, by decide, rfl,
    by decide, by decide⟩

theorem witness_StepRunsThePlacedWord :
    ∃ (s : State) (nbits w : Nat) (i : Instr), legalConfig s.cfg = true ∧ s.fault = 0 ∧ decodeTableWord nbits w = some i :=
  ⟨State.reset, 32, 0x10000000, .txt, by decide⟩

theorem witness_MaskedEventHasNoEffect :
    (∃ s : State, s.fault = 0 ∧ s.ie = false) ∧ (∃ s : State, s.fault = 0 ∧ s.ie = true ∧ s.txEn = false) ∧
      (∃ s : State, s.fault = 0 ∧ s.ie = true ∧ s.rxEn = false) :=
  ⟨⟨State.reset, by decide⟩, ⟨{ booted with txEn := false }, by decide⟩, ⟨{ booted with rxEn := false }, by decide⟩⟩

/-- The launch state with a TXT and an RXE that wait, and a word of MAIN between them. -/
def waitingAround (w : Word) : State :=
  { State.reset with inbox := [⟨.timer, 0x10000000⟩, ⟨.main, w⟩, ⟨.edge, 0x20000000⟩] }

/-- An enabled word behind one that waits, and a state in which every word waits. -/
theorem witness_WaitingWordStaysHeld :
    (let s := waitingAround 0xA0000000;
      legalConfig s.cfg = true ∧ s.fault = 0 ∧ s.inbox = [⟨.timer, 0x10000000⟩] ++ ⟨.main, 0xA0000000⟩ :: [⟨.edge, 0x20000000⟩] ∧
        s.waits ⟨.timer, 0x10000000⟩ = true ∧ s.waits ⟨.main, 0xA0000000⟩ = false ∧
        decode .main 0xA0000000 = .op .sei ∧ s.enables .sei = true) ∧
    (∃ s : State, legalConfig s.cfg = true ∧ s.fault = 0 ∧ s.inbox ≠ [] ∧ ∀ e ∈ s.inbox, s.waits e = true) :=
  ⟨by decide, ⟨{ State.reset with inbox := [⟨.timer, 0x10000000⟩] }, by decide⟩⟩
/-- A rejected word behind one that waits. -/
theorem witness_WaitingWordStaysHeld_rejected :
    let s := waitingAround 0x50000001
    legalConfig s.cfg = true ∧ s.fault = 0 ∧ s.inbox = [⟨.timer, 0x10000000⟩] ++ ⟨.main, 0x50000001⟩ :: [⟨.edge, 0x20000000⟩] ∧
      s.waits ⟨.timer, 0x10000000⟩ = true ∧ s.waits ⟨.main, 0x50000001⟩ = false ∧
      decode .main 0x50000001 = .illegal .mustBeZero := by decide

/-- 60_exceptions.md R302, V-FL8: a rejected word behind a waiting one is not dropped. -/
theorem test_rejected_behind_waiting :
    shows (step (waitingAround 0x50000001)) (fun t => (t.fault, t.inbox)) =
      some (1, [⟨.timer, 0x10000000⟩, ⟨.edge, 0x20000000⟩]) := by decide

theorem witness_FaultedStateHasNoStep : ∃ s : State, s.fault ≠ 0 ∧ legalConfig s.cfg = true :=
  ⟨{ booted with fault := 2 }, by decide⟩

theorem witness_UnfaultedStateAlwaysSteps : ∃ s : State, s.Inv ∧ s.fault = 0 :=
  ⟨holding, holding_inv, by decide⟩

theorem witness_FaultingStepWritesOnlyFault :
    (∃ s t : State, exec .txt s = .next t ∧ t.fault ≠ 0) ∧ ∃ (d : Delivery) (s t : State), deliver d s = .next t ∧ t.fault ≠ 0 :=
  ⟨⟨{ booted with txState := .separator }, _, rfl, by decide⟩, ⟨⟨.main, 0⟩, booted, _, rfl, by decide⟩⟩

theorem witness_OnlyTxtRaisesAndOnlyForABadSize :
    ∃ (i : Instr) (s t : State), i.WellFormed ∧ exec i s = .next t ∧ t.fault ≠ 0 :=
  ⟨.txt, { booted with txState := .sendByte, txMask := 0x01, slot0 := { message 0 with size := 7 } }, _, by decide, rfl, by decide⟩

theorem witness_BadSizeRaisesTxBadSize :
    ∀ size ∈ [2#8, 7#8], ∀ st ∈ [TxState.separator, TxState.sendByte],
      let s : State := { booted with txState := st, txMask := 0x01, slot0 := { message 0 with size := size } }
      s.fault = 0 ∧ s.ie = true ∧ s.txEn = true ∧ s.txPhase = .advance ∧
        ¬ (3 ≤ (s.slot s.txSlot).size.toNat ∧ (s.slot s.txSlot).size.toNat ≤ 6) ∧
        (s.txState = .separator ∨ s.txState = .sendByte ∧ s.txMask >>> 1 = 0) := by decide

theorem witness_ReservedOperandRaisesIllegalOp : ∃ (i : Instr) (s : State), ¬ i.WellFormed ∧ s.fault = 0 :=
  ⟨.rdx 7, booted, by decide⟩

theorem witness_LegalTimingClassifies : ∃ p : Params, legalConfig p = true ∧ p.halfShort = p.rxThreshold :=
  ⟨{ Params.standard with halfShort := 180 }, by decide⟩

theorem witness_TxtHoldHalf : ∃ s : State, s.fault = 0 ∧ s.ie = true ∧ s.txEn = true ∧ s.txPhase = .hold :=
  ⟨{ booted with txPhase := .hold, txLatch := .long }, by decide⟩

theorem witness_TxtPreambleCounts :
    ∃ s : State, s.fault = 0 ∧ s.ie = true ∧ s.txEn = true ∧ s.txPhase = .advance ∧ s.txState = .preamble ∧ s.txPreCnt ≠ 1 :=
  ⟨{ booted with txPreCnt := 2 }, by decide⟩

theorem witness_TxtReadyStartsTheMessage :
    ∃ s : State, s.fault = 0 ∧ s.ie = true ∧ s.txEn = true ∧ s.txPhase = .advance ∧ s.txState = .preamble ∧
      s.txPreCnt = 1 ∧ (s.answers.headD (Config.sourceAnswer s.draws)).ready = true :=
  ⟨{ booted with txPreCnt := 1, answers := [⟨true, some (message 20)⟩] }, by decide⟩

theorem witness_TxtUnderrunFollowsThePolicy :
    ∀ policy ∈ [UnderrunPolicy.stretch, UnderrunPolicy.idleSubst],
      let s : State := { booted with txPreCnt := 1, answers := [⟨false, none⟩], cfg := { booted.cfg with underrunPolicy := policy } }
      s.fault = 0 ∧ s.ie = true ∧ s.txEn = true ∧ s.txPhase = .advance ∧ s.txState = .preamble ∧ s.txPreCnt = 1 ∧
        (s.answers.headD (Config.sourceAnswer s.draws)).ready = false ∧ s.cfg.underrunPolicy = policy := by decide

theorem witness_TxtExtendPreamble :
    ∃ s : State, s.fault = 0 ∧ s.ie = true ∧ s.txEn = true ∧ s.txPhase = .advance ∧ s.txState = .extendPreamble :=
  ⟨{ booted with txState := .extendPreamble, txExtCnt := 1 }, by decide⟩

theorem witness_TxtSeparator :
    ∃ (s : State) (v : Byte), s.fault = 0 ∧ s.ie = true ∧ s.txEn = true ∧ s.txPhase = .advance ∧ s.txState = .separator ∧
      3 ≤ (s.slot s.txSlot).size.toNat ∧ (s.slot s.txSlot).size.toNat ≤ 6 ∧
      (s.slot s.txSlot).data.toList[s.txByteIdx.toNat]? = some v :=
  ⟨{ booted with txState := .separator, txByteIdx := 5, slot0 := { message 0 with size := 6 } }, 0, by decide⟩

theorem witness_TxtSendsABit :
    ∃ s : State, s.fault = 0 ∧ s.ie = true ∧ s.txEn = true ∧ s.txPhase = .advance ∧ s.txState = .sendByte ∧ s.txMask >>> 1 ≠ 0 :=
  ⟨{ booted with txState := .sendByte, txMask := 0x02 }, by decide⟩

theorem witness_TxtByteExhausted :
    ∀ index ∈ [4#8, 5#8],
      let s : State := { booted with txState := .sendByte, txMask := 0x01, txByteIdx := index, slot0 := { message 0 with size := 6 } }
      s.fault = 0 ∧ s.ie = true ∧ s.txEn = true ∧ s.txPhase = .advance ∧ s.txState = .sendByte ∧ s.txMask >>> 1 = 0 ∧
        3 ≤ (s.slot s.txSlot).size.toNat ∧ (s.slot s.txSlot).size.toNat ≤ 6 := by decide

theorem witness_TxtLeavesEverythingElse : ∃ s t : State, exec .txt s = .next t := ⟨booted, _, rfl⟩

theorem witness_TxtAppendsOneRecord :
    ∃ s t : State, s.ie = true ∧ s.txEn = true ∧ exec .txt s = .next t ∧ t.fault = 0 :=
  ⟨booted, _, by decide, by decide, rfl, by decide⟩

theorem witness_BitIsTwoEqualHalfCells :
    ∃ s t : State, s.ie = true ∧ s.txEn = true ∧ s.txPhase = .advance ∧ runWords (timerTicks 2) s = .next t :=
  ⟨booted, _, by decide, by decide, by decide, rfl⟩

theorem witness_EncoderSendsTheFramedMessage :
    ∃ s : State, s.fault = 0 ∧ s.ie = true ∧ s.txEn = true ∧ s.txPhase = .advance ∧ s.txState = .separator ∧ s.txByteIdx = 0 ∧
      3 ≤ (s.slot s.txSlot).size.toNat ∧ (s.slot s.txSlot).size.toNat ≤ 6 :=
  ⟨{ booted with txState := .separator, slot0 := message 0 }, by decide⟩

theorem witness_EncoderCycleSendsTheMessage :
    ∃ (s : State) (m : Slot) (rest : List SourceAnswer), s.fault = 0 ∧ s.ie = true ∧ s.txEn = true ∧ s.txPhase = .advance ∧
      s.txState = .preamble ∧ s.txPreCnt = s.cfg.preambleBits ∧ 1 ≤ s.cfg.preambleBits.toNat ∧
      s.answers = ⟨true, some m⟩ :: rest ∧ 3 ≤ m.size.toNat ∧ m.size.toNat ≤ 6 ∧
      (s.cfg.extPreambleImpl = false ∨ m.pre.toNat ≤ s.cfg.preambleBits.toNat) :=
  ⟨{ booted with answers := [⟨true, some (message 20)⟩] }, message 20, [], by decide⟩

theorem witness_RxeRisingEdge : ∃ s : State, s.fault = 0 ∧ s.ie = true ∧ s.rxEn = true := ⟨booted, by decide⟩

/-- The measured time of 42_rx_decoder.md R214, as the statements about falling edges write it. -/
def elapsed (s : State) (time : Ticks) : Nat := (time.toNat + 2 ^ 16 - s.rxStart.toNat) % 2 ^ 16

theorem witness_RxeFallingInPreamble :
    ∀ ones ∈ [10#8, 11#8],
      let s : State := { booted with rxOnes := ones }
      s.fault = 0 ∧ s.ie = true ∧ s.rxEn = true ∧ s.rxState = .preamble ∧ s.cfg.rxThreshold.toNat < elapsed s 181 ∧
        elapsed s 180 ≤ s.cfg.rxThreshold.toNat ∧ (s.rxOnes.toNat ≤ 10 ∨ 10 < s.rxOnes.toNat) := by decide

theorem witness_RxeFallingInStartBit :
    ∃ s : State, s.fault = 0 ∧ s.ie = true ∧ s.rxEn = true ∧ s.rxState = .startBit ∧
      s.cfg.rxThreshold.toNat < elapsed s 181 ∧ elapsed s 180 ≤ s.cfg.rxThreshold.toNat :=
  ⟨{ booted with rxState := .startBit }, by decide⟩

theorem witness_RxeFallingInData :
    ∀ n ∈ [6#8, 7#8], ∀ k ∈ [5#8, 6#8, 7#8],
      let s : State := { booted with rxState := .data, rxBitCnt := n, rxByteCnt := k }
      s.fault = 0 ∧ s.ie = true ∧ s.rxEn = true ∧ s.rxState = .data ∧ (s.rxBitCnt ≠ 7 ∨ s.rxBitCnt = 7) := by decide

/-- In END_BIT with the bytes 03 05 06 in scratch and a byte count of n. -/
def inEndBit (n : Byte) : State := { booted with rxState := .endBit, rxScratch := (message 0).data, rxByteCnt := n }

theorem witness_RxeFallingInEndBit :
    (inEndBit 3).fault = 0 ∧ (inEndBit 3).ie = true ∧ (inEndBit 3).rxEn = true ∧ (inEndBit 3).rxState = .endBit ∧
      (inEndBit 3).cfg.rxThreshold.toNat < elapsed (inEndBit 3) 181 ∧
      elapsed (inEndBit 3) 180 ≤ (inEndBit 3).cfg.rxThreshold.toNat := by decide
theorem witness_RxeFallingInEndBit_packets :
    validPacket (inEndBit 3).rxScratch 3 = true ∧ validPacket (inEndBit 2).rxScratch 2 = false ∧
      validPacket (inEndBit 7).rxScratch 7 = false ∧ validPacket (inEndBit 4).rxScratch 4 = true := by decide

theorem witness_RxeLeavesEverythingElse : ∃ s t : State, exec (.rxe false 116) s = .next t := ⟨booted, _, rfl⟩

theorem witness_DiagnosticCounterCountsEdges :
    ∃ s t : State, s.ie = true ∧ s.rxEn = true ∧ exec (.rxe true 0) s = .next t := ⟨booted, _, by decide, by decide, rfl⟩

theorem witness_ModeNeverChangesDecoding : ∃ s t : State, exec (.rxe false 116) s = .next t := ⟨booted, _, rfl⟩

theorem witness_OnlyAValidPacketIsExported :
    ∃ (i : Instr) (s t : State), exec i s = .next t ∧ t.exported ≠ s.exported ∧ i ≠ .reset :=
  ⟨.rxe false 116, { booted with rxState := .endBit, rxScratch := (message 0).data, rxByteCnt := 3 }, _, rfl, by decide, by decide⟩

theorem witness_DecoderExportsTheFramedPacket :
    ∃ (s : State) (data : Cells) (size : Byte) (ones : Nat) (bits : List (Ticks × Bool)), s.fault = 0 ∧ s.ie = true ∧
      s.rxEn = true ∧ legalConfig s.cfg = true ∧ s.rxState = .preamble ∧ s.rxOnes = 0 ∧ validPacket data size = true ∧
      12 ≤ ones ∧ bits.map Prod.snd = List.replicate ones true ++ frameBits (messageBytes data size) ++ [true] :=
  ⟨booted, (message 0).data, 3, 12,
    (List.replicate 12 true ++ frameBits (messageBytes (message 0).data 3) ++ [true]).map fun b => (0, b), by decide⟩

theorem witness_RoundTripOfTheFirstMessage :
    ∃ (s : State) (m : Slot) (rest : List SourceAnswer), s.fault = 0 ∧ legalConfig s.cfg = true ∧ s.ie = true ∧
      s.txEn = true ∧ s.rxEn = true ∧ s.txPhase = .advance ∧ s.txState = .preamble ∧ s.txPreCnt = s.cfg.preambleBits ∧
      s.txPin = false ∧ s.txTrace = [] ∧ s.rxState = .preamble ∧ s.rxOnes = 0 ∧ 12 ≤ s.cfg.preambleBits.toNat ∧
      s.answers = ⟨true, some m⟩ :: rest ∧ validPacket m.data m.size = true ∧
      (s.cfg.extPreambleImpl = false ∨ m.pre.toNat ≤ s.cfg.preambleBits.toNat) :=
  ⟨{ booted with answers := [⟨true, some (message 0)⟩] }, message 0, [], by decide⟩

/-- A state without a fault meets what the scheduler's and the control operations' statements ask for. -/
theorem witness_SchedulerAndControl : ∃ s : State, s.fault = 0 := ⟨State.reset, by decide⟩

theorem witness_WrsWritesOneCell : ∀ i ∈ [0#4, 5#4, 6#4, 7#4], booted.fault = 0 ∧ i.toNat ≤ 7 := by decide

theorem witness_RdxReadsTheExportedBuffer :
    ∀ i ∈ [0#4, 5#4, 6#4], booted.fault = 0 ∧
      (booted.exported.data.toList ++ [booted.exported.size])[i.toNat]? = some 0 := by decide

theorem witness_ReadsAreIdempotent :
    ∀ i ∈ [Instr.sel, Instr.rdx 6, Instr.rdr 0x36], i.WellFormed ∧ booted.fault = 0 := by decide

theorem witness_OnlyTheNamedWritersWrite :
    (∃ (i : Instr) (s t : State), exec i s = .next t ∧ i ≠ .reset ∧ t.flags ≠ s.flags) ∧
      (∃ (i : Instr) (s t : State), exec i s = .next t ∧ i ≠ .reset ∧ t.rxStart ≠ s.rxStart) ∧
      (∃ (i : Instr) (s t : State), exec i s = .next t ∧ i ≠ .reset ∧ t.exported ≠ s.exported ∧ t.rxState ≠ s.rxState) ∧
      ∃ (i : Instr) (s t : State), exec i s = .next t ∧ i ≠ .reset ∧ t.fault ≠ s.fault :=
  ⟨⟨.req 0, booted, _, rfl, by decide, by decide⟩, ⟨.rxe true 1, booted, _, rfl, by decide, by decide⟩,
    ⟨.rxe false 116, inEndBit 3, _, rfl, by decide, by decide, by decide⟩,
    ⟨.txt, { booted with txState := .separator }, _, rfl, by decide, by decide⟩⟩

theorem witness_TracesOnlyGrow : ∃ (i : Instr) (s t : State), exec i s = .next t ∧ t.txTrace ≠ s.txTrace :=
  ⟨.txt, booted, _, rfl, by decide⟩

theorem witness_MaskedBracketIsAtomic :
    ∃ (ds : List Delivery) (s t : State), s.ie = false ∧
      (∀ d ∈ ds, decode d.agent d.word ≠ .op .sei ∧ decode d.agent d.word ≠ .op .reset) ∧ runWords ds s = .next t :=
  ⟨[⟨.edge, 0x20000000⟩, ⟨.main, 0x60000006⟩, ⟨.timer, 0x10000000⟩], State.reset, _, by decide, by decide, rfl⟩

theorem witness_PseudoOperationsDoWhatTheyName :
    booted.fault = 0 ∧ (∀ bytes ∈ [[0x03#8, 0x05#8], [1#8, 2#8, 3#8, 4#8, 5#8]], 2 ≤ bytes.length ∧ bytes.length ≤ 5) ∧
      ∀ bytes ∈ [[1#8, 2#8, 0#8], [1#8, 2#8, 3#8, 4#8, 5#8, 6#8]], 3 ≤ bytes.length ∧ bytes.length ≤ 6 := by decide

/-- READPKT's reads with ISR words among them: the size alone, and all seven cells. -/
theorem witness_PseudoOperationsDoWhatTheyName_readpkt :
    ∃ reads, expandPseudo .readPkt = some (.cli :: reads ++ [.sei]) ∧ reads.length = 7 ∧
      (booted.exported.size :: booted.exported.data.toList)[0]? = some 0 ∧
      (booted.exported.size :: booted.exported.data.toList)[6]? = some 0 ∧
      ([⟨.edge, encode (.rxe false 0)⟩, ⟨.main, encode (.rdx 6)⟩, ⟨.timer, encode .txt⟩] : List Delivery).filter
          (fun d => decide (d.agent = .main)) = (reads.take 1).map (fun i => ⟨.main, encode i⟩) ∧
      (⟨.timer, encode .txt⟩ :: reads.map (fun i => (⟨.main, encode i⟩ : Delivery))).filter
          (fun d => decide (d.agent = .main)) = (reads.take 7).map (fun i => ⟨.main, encode i⟩) :=
  ⟨[.rdx 6, .rdx 0, .rdx 1, .rdx 2, .rdx 3, .rdx 4, .rdx 5], by decide⟩

end Sys2Proof.Tests
end

namespace Sys2Proof.Machine

/-! ## What each operation writes (10_state.md R32 to R63; 20_memory.md R91) -/

/-- The state `s` with the fields that operation `i` may write taken from `t` (10_state.md R32 to R63). RESET may
write every field. -/
def withWritesOf (i : Instr) (s t : State) : State :=
  match i with
  | .txt =>
    { s with
      fault := t.fault, txState := t.txState, txPreCnt := t.txPreCnt, txExtCnt := t.txExtCnt, txByteIdx := t.txByteIdx
      txSlot := t.txSlot, txMask := t.txMask, txCurByte := t.txCurByte, txLatch := t.txLatch, txPhase := t.txPhase
      txPin := t.txPin, slot0 := t.slot0, txTrace := t.txTrace, answers := t.answers, draws := t.draws }
  | .rxe level _ =>
    { s with
      rxStart := if level then t.rxStart else s.rxStart, rxState := if level then s.rxState else t.rxState
      exported := if level then s.exported else t.exported, flags := if level then s.flags else t.flags
      rxOnes := t.rxOnes, rxBitCnt := t.rxBitCnt, rxByteCnt := t.rxByteCnt, rxAcc := t.rxAcc, rxScratch := t.rxScratch
      rxDiag := t.rxDiag, cleanPin := t.cleanPin, cleanTrace := t.cleanTrace }
  | .req _ => { s with flags := t.flags }
  | .clr _ => { s with flags := t.flags }
  | .sel => { s with rdata := t.rdata }
  | .rdx _ => { s with rdata := t.rdata, fault := t.fault }
  | .wrs k _ _ =>
    { s with slot0 := if k then s.slot0 else t.slot0, slot1 := if k then t.slot1 else s.slot1, fault := t.fault }
  | .mode _ => { s with mode := t.mode }
  | .cli => { s with ie := t.ie }
  | .sei => { s with ie := t.ie }
  | .txen _ => { s with txEn := t.txEn }
  | .rxen _ => { s with rxEn := t.rxEn }
  | .rdr _ => { s with rdata := t.rdata, fault := t.fault }
  | .reset => t

theorem withWritesOf_self (i : Instr) (s : State) : withWritesOf i s s = s := by
  cases i with
  | rxe level time => cases level <;> rfl
  | wrs k n v => cases k <;> rfl
  | _ => rfl

/-- A falling edge leaves `RX_START` as it is (10_state.md R57). -/
theorem edgeStep_false_rxStart (time : Ticks) (s : State) : (edgeStep false time s).rxStart = s.rxStart := by
  rw [edgeStep_falling]
  simp

/-- An edge that answers a next state was masked, or had the effect of `edgeStep`. -/
theorem execRxe_next {level : Bool} {time : Ticks} {s t : State} (h : execRxe level time s = .next t) :
    t = s ∨ t = edgeStep level time s := by
  obtain ⟨-, ⟨-, he⟩ | ⟨-, hm⟩⟩ := whenEnabled_next h
  · exact .inr (by simpa using he.symm)
  · exact .inl hm

theorem edgeStep_withWritesOf (level : Bool) (time : Ticks) (s : State) :
    edgeStep level time s = withWritesOf (.rxe level time) s (edgeStep level time s) := by
  cases level with
  | true => rfl
  | false =>
    calc edgeStep false time s = _ := edgeStep_writes false time s
      _ = withWritesOf (.rxe false time) s (edgeStep false time s) := by rw [edgeStep_false_rxStart]; rfl

theorem execTxt_writes {s t : State} (h : execTxt s = .next t) : t = withWritesOf .txt s t := by
  obtain ⟨-, ⟨-, rfl⟩ | ⟨-, -, rfl⟩ | ⟨-, -, ha⟩⟩ := execTxt_next h
  · rfl
  · rfl
  · obtain ⟨d, u, hu, rfl⟩ | ⟨-, rfl⟩ := advanceHalf_next ha
    · rw [txStep_writes hu]
      rfl
    · rfl

/-- WRS answers the state with one cell of its slot written, or, where the slot has no such cell, with `ILLEGAL_OP`. -/
theorem execWrs_next {k : Bool} {n : BitVec 4} {v : Byte} {s t : State} (h : execWrs k n v s = .next t) :
    (∃ m, slotWrite (s.slot k) n.toNat v = some m ∧ t = s.setSlot k m) ∨
      (slotWrite (s.slot k) n.toNat v = none ∧ t = { s with fault := 0x01 }) := by
  obtain ⟨-, ⟨-, he⟩ | ⟨hm, -⟩⟩ := whenEnabled_next h
  · split at he
    · exact .inl ⟨_, ‹_›, by simpa using he.symm⟩
    · exact .inr ⟨‹_›, raiseFault_next he⟩
  · cases hm

/-- An operation that is always enabled answers what its effect answers. -/
theorem whenEnabled_true_next {s t : State} {r : Result} (h : whenEnabled s true r = .next t) : r = .next t := by
  obtain ⟨-, ⟨-, he⟩ | ⟨hm, -⟩⟩ := whenEnabled_next h
  · exact he
  · cases hm

/-- No operation writes a field on the side (10_state.md R64). -/
theorem exec_writes {i : Instr} {s t : State} (h : exec i s = .next t) : t = withWritesOf i s t := by
  cases i with
  | txt => exact execTxt_writes h
  | rxe level time =>
    obtain rfl | rfl := execRxe_next h
    · exact (withWritesOf_self _ _).symm
    · exact edgeStep_withWritesOf level time s
  | wrs k n v =>
    obtain ⟨m, -, rfl⟩ | ⟨-, rfl⟩ := execWrs_next h
    · cases k <;> rfl
    · cases k <;> rfl
  | rdx n =>
    obtain ⟨v, -, rfl⟩ | ⟨-, rfl⟩ := latchRead_next (whenEnabled_true_next h)
    · rfl
    · rfl
  | rdr r =>
    obtain ⟨v, -, rfl⟩ | ⟨-, rfl⟩ := latchRead_next (whenEnabled_true_next h)
    · rfl
    · rfl
  | reset => rfl
  | _ =>
    cases whenEnabled_true_next h
    rfl

/-! ## When an operation raises a fault -/

theorem not_wellFormed_rdx {e : ExportBuffer} {n : BitVec 4} (h : exportRead e n.toNat = none) :
    ¬ (Instr.rdx n).WellFormed := by
  have hn : ¬ n.toNat ≤ 6 := by rw [← exportRead_isSome_iff e]; simp [h]
  simp [Instr.WellFormed, Instr.defect, hn]

theorem not_wellFormed_wrs {m : Slot} {k : Bool} {n : BitVec 4} {v : Byte} (h : slotWrite m n.toNat v = none) :
    ¬ (Instr.wrs k n v).WellFormed := by
  have hn : ¬ n.toNat ≤ 7 := by rw [← slotWrite_isSome_iff m n.toNat v]; simp [h]
  simp [Instr.WellFormed, Instr.defect, hn]

theorem not_wellFormed_rdr {s : State} {r : Byte} (h : s.readReg r = none) : ¬ (Instr.rdr r).WellFormed := by
  have hr : ¬ (r.toNat ≤ 0x18 ∨ 0x20 ≤ r.toNat ∧ r.toNat ≤ 0x36) := fun hr => by
    simpa [h] using readReg_isSome s r hr
  have hm : regMapped r = false := by simpa [regMapped] using hr
  simp [Instr.WellFormed, Instr.defect, hm]

theorem execTxt_fault {s t : State} (h : execTxt s = .next t) : t.fault = s.fault ∨ t.fault = 0x02 := by
  obtain ⟨-, ⟨-, rfl⟩ | ⟨-, -, rfl⟩ | ⟨-, -, ha⟩⟩ := execTxt_next h
  · exact .inl rfl
  · exact .inl rfl
  · obtain ⟨d, u, hu, rfl⟩ | ⟨-, rfl⟩ := advanceHalf_next ha
    · rw [txStep_writes hu]
      exact .inl rfl
    · exact .inr rfl

/-- `FAULT` is written only by TXT with `TX_BAD_SIZE` and, with `ILLEGAL_OP`, by an operation with a reserved operand
(10_state.md R37; log entry 14). -/
theorem writer_of_fault_ne {i : Instr} {s t : State} (h : exec i s = .next t) (hr : i ≠ .reset)
    (hne : t.fault ≠ s.fault) :
    i = .txt ∧ t.fault = 0x02 ∨ ¬ i.WellFormed ∧ t.fault = 0x01 := by
  cases i with
  | txt => exact .inl ⟨rfl, (execTxt_fault h).resolve_left hne⟩
  | wrs k n v =>
    obtain ⟨m, -, rfl⟩ | ⟨hw, rfl⟩ := execWrs_next h
    · cases k <;> exact absurd rfl hne
    · exact .inr ⟨not_wellFormed_wrs hw, rfl⟩
  | rdx n =>
    obtain ⟨v, -, rfl⟩ | ⟨hn, rfl⟩ := latchRead_next (whenEnabled_true_next h)
    · exact absurd rfl hne
    · exact .inr ⟨not_wellFormed_rdx hn, rfl⟩
  | rdr r =>
    obtain ⟨v, -, rfl⟩ | ⟨hn, rfl⟩ := latchRead_next (whenEnabled_true_next h)
    · exact absurd rfl hne
    · exact .inr ⟨not_wellFormed_rdr hn, rfl⟩
  | reset => exact absurd rfl hr
  | _ =>
    rw [exec_writes h] at hne
    exact absurd rfl hne

/-! ## The writers of each register

Each lemma names the operations in whose `withWritesOf` the register is taken from the new state; in every other one it is
the old state's, by definition. -/

section Writers

variable {i : Instr} {s t : State}

theorem writer_of_rdata_ne (h : exec i s = .next t) (hr : i ≠ .reset) (hne : t.rdata ≠ s.rdata) :
    i = .sel ∨ (∃ n, i = .rdx n) ∨ ∃ r, i = .rdr r := by
  rw [exec_writes h] at hne
  cases i with
  | sel => exact .inl rfl
  | rdx n => exact .inr (.inl ⟨n, rfl⟩)
  | rdr r => exact .inr (.inr ⟨r, rfl⟩)
  | reset => exact absurd rfl hr
  | _ => exact absurd rfl hne

theorem writer_of_ie_ne (h : exec i s = .next t) (hr : i ≠ .reset) (hne : t.ie ≠ s.ie) :
    i = .cli ∨ i = .sei := by
  rw [exec_writes h] at hne
  cases i with
  | cli => exact .inl rfl
  | sei => exact .inr rfl
  | reset => exact absurd rfl hr
  | _ => exact absurd rfl hne

theorem writer_of_txEn_ne (h : exec i s = .next t) (hr : i ≠ .reset) (hne : t.txEn ≠ s.txEn) :
    ∃ y, i = .txen y := by
  rw [exec_writes h] at hne
  cases i with
  | txen y => exact ⟨y, rfl⟩
  | reset => exact absurd rfl hr
  | _ => exact absurd rfl hne

theorem writer_of_rxEn_ne (h : exec i s = .next t) (hr : i ≠ .reset) (hne : t.rxEn ≠ s.rxEn) :
    ∃ y, i = .rxen y := by
  rw [exec_writes h] at hne
  cases i with
  | rxen y => exact ⟨y, rfl⟩
  | reset => exact absurd rfl hr
  | _ => exact absurd rfl hne

theorem writer_of_mode_ne (h : exec i s = .next t) (hr : i ≠ .reset) (hne : t.mode ≠ s.mode) :
    ∃ y, i = .mode y := by
  rw [exec_writes h] at hne
  cases i with
  | mode y => exact ⟨y, rfl⟩
  | reset => exact absurd rfl hr
  | _ => exact absurd rfl hne

theorem writer_of_flags_ne (h : exec i s = .next t) (hr : i ≠ .reset) (hne : t.flags ≠ s.flags) :
    (∃ b, i = .req b) ∨ (∃ b, i = .clr b) ∨ ∃ time, i = .rxe false time := by
  rw [exec_writes h] at hne
  cases i with
  | req b => exact .inl ⟨b, rfl⟩
  | clr b => exact .inr (.inl ⟨b, rfl⟩)
  | rxe level time =>
    cases level with
    | false => exact .inr (.inr ⟨time, rfl⟩)
    | true => exact absurd rfl hne
  | reset => exact absurd rfl hr
  | _ => exact absurd rfl hne

theorem writer_of_slot0_ne (h : exec i s = .next t) (hr : i ≠ .reset) (hne : t.slot0 ≠ s.slot0) :
    (∃ n v, i = .wrs false n v) ∨ i = .txt := by
  rw [exec_writes h] at hne
  cases i with
  | txt => exact .inr rfl
  | wrs k n v =>
    cases k with
    | false => exact .inl ⟨n, v, rfl⟩
    | true => exact absurd rfl hne
  | reset => exact absurd rfl hr
  | _ => exact absurd rfl hne

theorem writer_of_slot1_ne (h : exec i s = .next t) (hr : i ≠ .reset) (hne : t.slot1 ≠ s.slot1) :
    ∃ n v, i = .wrs true n v := by
  rw [exec_writes h] at hne
  cases i with
  | wrs k n v =>
    cases k with
    | false => exact absurd rfl hne
    | true => exact ⟨n, v, rfl⟩
  | reset => exact absurd rfl hr
  | _ => exact absurd rfl hne

theorem writer_of_exported_ne (h : exec i s = .next t) (hr : i ≠ .reset) (hne : t.exported ≠ s.exported) :
    ∃ time, i = .rxe false time := by
  rw [exec_writes h] at hne
  cases i with
  | rxe level time =>
    cases level with
    | false => exact ⟨time, rfl⟩
    | true => exact absurd rfl hne
  | reset => exact absurd rfl hr
  | _ => exact absurd rfl hne

theorem writer_of_rxState_ne (h : exec i s = .next t) (hr : i ≠ .reset) (hne : t.rxState ≠ s.rxState) :
    ∃ time, i = .rxe false time := by
  rw [exec_writes h] at hne
  cases i with
  | rxe level time =>
    cases level with
    | false => exact ⟨time, rfl⟩
    | true => exact absurd rfl hne
  | reset => exact absurd rfl hr
  | _ => exact absurd rfl hne

theorem writer_of_rxStart_ne (h : exec i s = .next t) (hr : i ≠ .reset) (hne : t.rxStart ≠ s.rxStart) :
    ∃ time, i = .rxe true time := by
  rw [exec_writes h] at hne
  cases i with
  | rxe level time =>
    cases level with
    | false => exact absurd rfl hne
    | true => exact ⟨time, rfl⟩
  | reset => exact absurd rfl hr
  | _ => exact absurd rfl hne

/-- `RX_ONES`, `RX_BITCNT`, `RX_BYTECNT`, `RX_ACC`, `RX_SCRATCH`, `RX_DIAG` and `CLEAN_PIN` (10_state.md R52 to R56, R58,
R59). -/
theorem writer_of_decoder_ne (h : exec i s = .next t) (hr : i ≠ .reset)
    (hne : (t.rxOnes, t.rxBitCnt, t.rxByteCnt, t.rxAcc, t.rxScratch, t.rxDiag, t.cleanPin) ≠
      (s.rxOnes, s.rxBitCnt, s.rxByteCnt, s.rxAcc, s.rxScratch, s.rxDiag, s.cleanPin)) :
    ∃ level time, i = .rxe level time := by
  rw [exec_writes h] at hne
  cases i with
  | rxe level time => exact ⟨level, time, rfl⟩
  | reset => exact absurd rfl hr
  | _ => exact absurd rfl hne

/-- The encoder's registers and `TX_PIN` (10_state.md R40 to R49). -/
theorem writer_of_encoder_ne (h : exec i s = .next t) (hr : i ≠ .reset)
    (hne : (t.txState, t.txPreCnt, t.txExtCnt, t.txByteIdx, t.txSlot, t.txMask, t.txCurByte, t.txLatch, t.txPhase,
        t.txPin) ≠
      (s.txState, s.txPreCnt, s.txExtCnt, s.txByteIdx, s.txSlot, s.txMask, s.txCurByte, s.txLatch, s.txPhase,
        s.txPin)) :
    i = .txt := by
  rw [exec_writes h] at hne
  cases i with
  | txt => rfl
  | reset => exact absurd rfl hr
  | _ => exact absurd rfl hne

end Writers

/-- Settles O57: every operation's next state is the old one with the fields of `withWritesOf` changed, and of `FAULT` the
two raises are told apart. -/
theorem onlyTheNamedWritersWrite : Obligations.OnlyTheNamedWritersWrite := by
  unfold Obligations.OnlyTheNamedWritersWrite
  intro i s t h hr
  exact ⟨writer_of_rdata_ne h hr, writer_of_ie_ne h hr, writer_of_txEn_ne h hr, writer_of_rxEn_ne h hr,
    writer_of_mode_ne h hr, writer_of_fault_ne h hr, writer_of_flags_ne h hr, writer_of_slot0_ne h hr,
    writer_of_slot1_ne h hr, writer_of_exported_ne h hr, writer_of_rxState_ne h hr, writer_of_rxStart_ne h hr,
    writer_of_decoder_ne h hr, writer_of_encoder_ne h hr⟩

/-! ## What a falling edge exports -/

/-- The task identifier of bit b has bit b (30_encoding.md R126). -/
theorem getLsbD_setFlags_taskMask (flags : Byte) (b : BitVec 3) :
    (setFlags flags (taskMask b)).getLsbD b.toNat = true := by
  have hb : (taskMask b).getLsbD b.toNat = true := by
    revert b
    decide
  rw [setFlags, BitVec.getLsbD_or, hb, Bool.or_true]

/-- A falling edge leaves the exported buffer, or exports the scratch buffer, a valid packet, and sets its task's flag
(42_rx_decoder.md R223, R224). -/
theorem edgeStep_false_exported (time : Ticks) (s : State) :
    (edgeStep false time s).exported = s.exported ∨
      validPacket s.rxScratch s.rxByteCnt = true ∧ (edgeStep false time s).exported = ⟨s.rxScratch, s.rxByteCnt⟩ ∧
        (edgeStep false time s).flags = setFlags s.flags (taskMask s.cfg.rxTaskBit) := by
  rw [edgeStep_falling]
  obtain ⟨he, -⟩ | ⟨-, -, hv, he, hf⟩ := rxStep_exported (classify s.cfg (time - s.rxStart))
    (cleanOut false { s with rxDiag := s.rxDiag + 1 })
  · exact .inl he
  · exact .inr ⟨hv, he, hf⟩

/-- Settles O45: the writer is a falling edge, and `edgeStep_false_exported` says what that does to the exported buffer. -/
theorem onlyAValidPacketIsExported : Obligations.OnlyAValidPacketIsExported := by
  unfold Obligations.OnlyAValidPacketIsExported
  intro i s t h hne hr
  obtain ⟨time, rfl⟩ := writer_of_exported_ne h hr hne
  obtain rfl | rfl := execRxe_next h
  · exact absurd rfl hne
  · obtain hsame | ⟨hv, he, hf⟩ := edgeStep_false_exported time s
    · exact absurd hsame hne
    · refine ⟨⟨time, rfl⟩, ?_, he, ?_⟩
      · rw [he]
        exact hv
      · rw [hf]
        exact getLsbD_setFlags_taskMask s.flags s.cfg.rxTaskBit

end Sys2Proof.Machine

namespace Sys2Proof.Machine

/-! ## Runs of words -/

theorem runWords_append {ds es : List Delivery} {s t : State} (h : runWords ds s = .next t) :
    runWords (ds ++ es) s = runWords es t := by
  induction ds generalizing s with
  | nil =>
    cases h
    rfl
  | cons d ds ih =>
    rw [runWords] at h
    rw [List.cons_append, runWords]
    cases hd : deliver d s with
    | next u =>
      rw [hd] at h
      exact ih h
    | fault r =>
      rw [hd] at h
      cases h
    | refused r =>
      rw [hd] at h
      cases h

/-- A TXT word of TIMER runs the encoder's half-cell (30_encoding.md R137). -/
theorem deliver_txt (s : State) : deliver ⟨.timer, encode .txt⟩ s = execTxt s := by
  have hd : decode .timer (encode .txt) = .op .txt := by decide
  rw [deliver, hd]
  rfl

/-! ## One bit of the encoder -/

/-- TXT is enabled and begins a bit with its next half-cell (41_tx_encoder.md R170). -/
structure State.TxReady (s : State) : Prop where
  fault : s.fault = 0
  ie : s.ie = true
  txEn : s.txEn = true
  phase : s.txPhase = .advance

theorem State.TxReady.txtEnabled {s : State} (h : s.TxReady) : s.txtEnabled = true := by
  rw [State.txtEnabled, h.ie, h.txEn]
  rfl

/-- TIMER's TXT words, two a bit, take the encoder from `s` to `t`, ready for the next bit, and send `bits`
(30_encoding.md R120). -/
structure Transmits (bits : List Bool) (s t : State) : Prop where
  run : runWords (timerTicks (2 * bits.length)) s = .next t
  trace : t.txTrace = s.txTrace ++ bitsWaveform s.cfg bits
  cfg : t.cfg = s.cfg
  ready : t.TxReady

theorem Transmits.trans {bits bits' : List Bool} {s t u : State} (h : Transmits bits s t) (h' : Transmits bits' t u) :
    Transmits (bits ++ bits') s u where
  run := by
    rw [List.length_append, Nat.mul_add, timerTicks, List.replicate_add]
    exact (runWords_append h.run).trans h'.run
  trace := by
    rw [h'.trace, h.trace, h.cfg, bitsWaveform, bitsWaveform, bitsWaveform, List.flatMap_append, List.append_assoc]
  cfg := h'.cfg.trans h.cfg
  ready := h'.ready

/-- The state after the two half-cells of bit `b`, where `TxStep()` left `u` (41_tx_encoder.md R171, R172). -/
def afterBit (b : Bool) (u : State) : State :=
  { u with txLatch := .ofBit b, txPhase := .advance, txPin := true, txTrace := u.txTrace ++ bitCell u.cfg b }

/-- The ADVANCE half-cell of a bit, with the phase and the latch that the HOLD half-cell reads. -/
def afterAdvance (b : Bool) (u : State) : State :=
  driveHalf false (.ofBit b) { u with txLatch := .ofBit b, txPhase := .hold }

theorem holdHalf_afterAdvance (b : Bool) (u : State) : holdHalf (afterAdvance b u) = afterBit b u :=
  congrArg (fun trace => { afterBit b u with txTrace := trace }) (List.append_assoc u.txTrace _ _)

/-- Two TXT words send the bit that `TxStep()` begins. -/
theorem transmits_bit {s u : State} {b : Bool} (hs : s.TxReady) (h : txStep s = .sends (.ofBit b) u) :
    Transmits [b] s (afterBit b u) := by
  have hw := txStep_writes h
  have hcfg : u.cfg = s.cfg := by rw [hw]
  have htrace : u.txTrace = s.txTrace := by rw [hw]
  have hready : (afterBit b u).TxReady :=
    ⟨by rw [hw]; exact hs.fault, by rw [hw]; exact hs.ie, by rw [hw]; exact hs.txEn, rfl⟩
  have hadvance : execTxt s = .next (afterAdvance b u) := by
    rw [execTxt, whenEnabled_effect hs.fault hs.txtEnabled, hs.phase]
    simp only [advanceHalf, h]
    rfl
  have hhold :=
    calc execTxt (afterAdvance b u)
      _ = .next (holdHalf (afterAdvance b u)) := whenEnabled_effect hready.fault hready.txtEnabled
      _ = .next (afterBit b u) := by rw [holdHalf_afterAdvance]
  exact
    { run := by simp [timerTicks, List.replicate, runWords, deliver_txt, hadvance, hhold]
      trace := by simp [afterBit, bitsWaveform, htrace, hcfg]
      cfg := hcfg
      ready := hready }

/-! ## One byte of the encoder -/

theorem txStep_separator {s : State} {v : Byte} (hst : s.txState = .separator)
    (hok : sizeOk (s.slot s.txSlot).size = true) (hv : (s.slot s.txSlot).data.read s.txByteIdx.toNat = some v) :
    txStep s = .sends (.ofBit false) { s with txCurByte := v, txMask := BitVec.twoPow 8 7, txState := .sendByte } := by
  simp only [txStep, hst, txSeparator, hok, hv, if_true]
  rfl

/-- The cursor at bit `k` tests that bit of the byte (41_tx_encoder.md R182). -/
theorem and_twoPow_bne_zero (b : Byte) {k : Nat} (hk : k < 8) : (b &&& BitVec.twoPow 8 k != 0) = b.getLsbD k := by
  have hne : BitVec.twoPow 8 k ≠ 0 := by interval_cases k <;> decide
  rw [BitVec.and_twoPow]
  cases b.getLsbD k with
  | false => rfl
  | true => simpa using hne

theorem txStep_sendByte_succ {s : State} {k : Nat} (hst : s.txState = .sendByte) (hk : k < 7)
    (hm : s.txMask = BitVec.twoPow 8 (k + 1)) :
    txStep s = .sends (.ofBit (s.txCurByte.getLsbD (k + 1))) { s with txMask := BitVec.twoPow 8 k } := by
  have hshift : BitVec.twoPow 8 (k + 1) >>> 1 = BitVec.twoPow 8 k := by interval_cases k <;> decide
  have hne : BitVec.twoPow 8 k ≠ 0 := by interval_cases k <;> decide
  simp only [txStep, hst, txSendByte, hm, hshift, if_neg hne, and_twoPow_bne_zero s.txCurByte (Nat.succ_lt_succ hk)]

theorem txStep_sendByte_zero {s : State} (hst : s.txState = .sendByte) (hm : s.txMask = BitVec.twoPow 8 0)
    (hok : sizeOk (s.slot s.txSlot).size = true) :
    txStep s = .sends (.ofBit (s.txCurByte.getLsbD 0)) (txByteSent { s with txMask := 0 }) := by
  have hshift : BitVec.twoPow 8 0 >>> 1 = 0 := by decide
  simp only [txStep, hst, txSendByte, hm, hshift, if_true, and_twoPow_bne_zero s.txCurByte (by decide : 0 < 8)]
  exact if_pos hok

/-- The end of a byte, as one record update (41_tx_encoder.md R183, R184). -/
theorem txByteSent_eq (s : State) :
    txByteSent s =
      let more := s.txByteIdx.toNat + 1 < (s.slot s.txSlot).size.toNat
      { s with
        txByteIdx := if more then s.txByteIdx + 1 else s.txByteIdx
        txState := if more then .separator else .preamble
        txPreCnt := if more then s.txPreCnt else s.cfg.preambleBits } := by
  unfold txByteSent
  split <;> simp [*]

/-- The bits of a byte below bit `k`, most significant first. -/
def bitsBelow (b : Byte) : Nat → List Bool
  | 0 => []
  | k + 1 => b.getLsbD k :: bitsBelow b k

theorem byteBits_eq_bitsBelow (b : Byte) : byteBits b = bitsBelow b 8 := rfl

/-- In SENDBYTE with the cursor at bit `k`, the bits from `k` down are sent and the byte ends (41_tx_encoder.md R182 to
R184). -/
theorem transmits_bitsBelow {k : Nat} (hk : k < 8) {s : State} (hs : s.TxReady) (hst : s.txState = .sendByte)
    (hm : s.txMask = BitVec.twoPow 8 k) (hok : sizeOk (s.slot s.txSlot).size = true) :
    ∃ t, Transmits (bitsBelow s.txCurByte (k + 1)) s t ∧
      t = { txByteSent { s with txMask := 0 } with
        txLatch := t.txLatch, txPhase := t.txPhase, txPin := t.txPin, txTrace := t.txTrace } := by
  induction k generalizing s with
  | zero =>
    refine ⟨_, transmits_bit hs (txStep_sendByte_zero hst hm hok), ?_⟩
    rw [txByteSent_eq]
    rfl
  | succ k ih =>
    have hbit := transmits_bit hs (txStep_sendByte_succ hst (by omega) hm)
    obtain ⟨t, hrest, ht⟩ := ih (by omega) hbit.ready hst rfl hok
    refine ⟨t, hbit.trans hrest, ht.trans ?_⟩
    rw [txByteSent_eq, txByteSent_eq]
    rfl

/-! ## One message of the encoder -/

theorem messageBytes_length {data : Cells} {size : Byte} (h : size.toNat ≤ 6) :
    (messageBytes data size).length = size.toNat := by
  simp [messageBytes, Cells.toList, h]

theorem byteBits_length (b : Byte) : (byteBits b).length = 8 := rfl

/-- Nine bits a byte (30_encoding.md R122). -/
theorem frameBits_length (bytes : List Byte) : (frameBits bytes).length = 9 * bytes.length := by
  induction bytes with
  | nil => rfl
  | cons b bs ih =>
    simp only [frameBits, List.cons_append, List.length_cons, List.length_append, byteBits_length, ih]
    omega

/-- The bytes of the message that the encoder's slot holds. -/
def State.txMessage (s : State) : List Byte := messageBytes (s.slot s.txSlot).data (s.slot s.txSlot).size

theorem messageBytes_drop {data : Cells} {size v : Byte} {n : Nat} (hn : n < size.toNat) (hv : data.read n = some v) :
    (messageBytes data size).drop n = v :: (messageBytes data size).drop (n + 1) := by
  rw [Cells.read_eq_getElem, ← List.getElem?_take_of_lt hn] at hv
  obtain ⟨hlt, hget⟩ := List.getElem?_eq_some_iff.mp hv
  rw [← hget]
  exact List.drop_eq_getElem_cons hlt

/-- From SEPARATOR with an index below the size, a "0" and the byte at the index are sent (41_tx_encoder.md R181, R182). -/
theorem transmits_byte {s : State} (hs : s.TxReady) (hst : s.txState = .separator)
    (hok : sizeOk (s.slot s.txSlot).size = true) (hlt : s.txByteIdx.toNat < (s.slot s.txSlot).size.toNat) :
    ∃ v t, s.txMessage.drop s.txByteIdx.toNat = v :: s.txMessage.drop (s.txByteIdx.toNat + 1) ∧
      Transmits (false :: byteBits v) s t ∧
      t = { txByteSent s with
        txCurByte := v, txMask := 0, txLatch := t.txLatch, txPhase := t.txPhase, txPin := t.txPin
        txTrace := t.txTrace } := by
  obtain ⟨-, hle⟩ := (sizeOk_iff _).mp hok
  obtain ⟨v, hv⟩ := Option.isSome_iff_exists.mp
    (((s.slot s.txSlot).data.read_isSome_iff s.txByteIdx.toNat).mpr (by omega))
  have hzero := transmits_bit hs (txStep_separator hst hok hv)
  obtain ⟨t, hbyte, ht⟩ := transmits_bitsBelow (k := 7) (by decide) hzero.ready rfl rfl hok
  rw [← byteBits_eq_bitsBelow] at hbyte
  refine ⟨v, t, messageBytes_drop hlt hv, hzero.trans hbyte, ht.trans ?_⟩
  rw [txByteSent_eq, txByteSent_eq]
  rfl

/-- From SEPARATOR with `m` bytes to follow the one at the index, the rest of the slot's message is sent framed and the next
preamble begins (41_tx_encoder.md R181 to R184). -/
theorem transmits_message {m : Nat} {s : State} (hs : s.TxReady) (hst : s.txState = .separator)
    (hok : sizeOk (s.slot s.txSlot).size = true)
    (hm : s.txByteIdx.toNat + 1 + m = (s.slot s.txSlot).size.toNat) :
    ∃ t, Transmits (frameBits (s.txMessage.drop s.txByteIdx.toNat)) s t ∧
      t = { s with
        txState := .preamble, txPreCnt := s.cfg.preambleBits, txByteIdx := t.txByteIdx, txMask := t.txMask
        txCurByte := t.txCurByte, txLatch := t.txLatch, txPhase := t.txPhase, txPin := t.txPin
        txTrace := t.txTrace } := by
  obtain ⟨-, hle⟩ := (sizeOk_iff _).mp hok
  induction m generalizing s with
  | zero =>
    obtain ⟨v, t, hdrop, hbyte, ht⟩ := transmits_byte hs hst hok (by omega)
    have hlast : ¬ s.txByteIdx.toNat + 1 < (s.slot s.txSlot).size.toNat := by omega
    have hnil : s.txMessage.drop (s.txByteIdx.toNat + 1) = [] :=
      List.drop_eq_nil_of_le (by rw [State.txMessage, messageBytes_length hle]; omega)
    simp only [txByteSent_eq, if_neg hlast] at ht
    rw [hdrop, hnil]
    refine ⟨t, by simpa [frameBits] using hbyte, ht.trans ?_⟩
    rw [ht]
  | succ m ih =>
    obtain ⟨v, t, hdrop, hbyte, ht⟩ := transmits_byte hs hst hok (by omega)
    have hmore : s.txByteIdx.toNat + 1 < (s.slot s.txSlot).size.toNat := by omega
    simp only [txByteSent_eq, if_pos hmore] at ht
    have hstate : t.txState = .separator := by rw [ht]
    have hslot : t.slot t.txSlot = s.slot s.txSlot := by rw [ht]; rfl
    have hmessage : t.txMessage = s.txMessage := by rw [State.txMessage, hslot, State.txMessage]
    have hidx : t.txByteIdx.toNat = s.txByteIdx.toNat + 1 := by
      have : t.txByteIdx = s.txByteIdx + 1 := by rw [ht]
      rw [this, BitVec.toNat_add, Nat.mod_eq_of_lt]
      · rfl
      · show s.txByteIdx.toNat + 1 < 256
        omega
    obtain ⟨u, hrest, hu⟩ := ih hbyte.ready hstate (by rw [hslot]; exact hok) (by rw [hslot, hidx]; omega)
      (by rw [hslot]; exact hle)
    rw [hmessage, hidx] at hrest
    rw [hdrop, frameBits]
    refine ⟨u, hbyte.trans hrest, hu.trans ?_⟩
    rw [ht]

/-- Settles O34: the framed message of the index 0, nine bits a byte and two TXT words a bit. -/
theorem encoderSendsTheFramedMessage : Obligations.EncoderSendsTheFramedMessage := by
  unfold Obligations.EncoderSendsTheFramedMessage
  intro s hf hie htx hph hst hidx hlo hhi
  have hidx : s.txByteIdx.toNat = 0 := by rw [hidx]; rfl
  obtain ⟨t, hsent, ht⟩ := transmits_message (m := (s.slot s.txSlot).size.toNat - 1) ⟨hf, hie, htx, hph⟩ hst
    ((sizeOk_iff _).mpr ⟨hlo, hhi⟩) (by omega)
  rw [hidx, List.drop_zero] at hsent
  have hcount : 2 * (frameBits s.txMessage).length = 18 * (s.slot s.txSlot).size.toNat := by
    rw [frameBits_length, State.txMessage, messageBytes_length hhi]
    omega
  refine ⟨t, hcount ▸ hsent.run, hsent.trace, ?_, ?_, hsent.ready.phase, ?_, hsent.ready.fault, ?_, ?_⟩
  all_goals rw [ht]

end Sys2Proof.Machine

namespace Sys2Proof

/-! ## The fields of a word -/

theorem wordField_eq_iff {w : Word} {lo len : Nat} {v : BitVec len} :
    wordField w lo len = v ↔ w.toNat / 2 ^ lo % 2 ^ len = v.toNat := by
  rw [← wordField_toNat, BitVec.toNat_inj]

theorem eq_ofBool_beq_one (b : BitVec 1) : b = BitVec.ofBool (b == 1) := by
  revert b
  decide

theorem ofBool_beq_one (b : Bool) : (BitVec.ofBool b == 1#1) = b := by
  cases b <;> rfl

/-- Formats N, K, X, B and G (30_encoding.md R128): the opcode, zeros, and one operand in the lowest bits. -/
theorem toNat_eq_lowOperand_iff {w : Word} {lo len : Nat} (hlen : lo + len = 28) (op : BitVec 4) (x : BitVec lo) :
    w.toNat = op.toNat * 2 ^ 28 + x.toNat ↔
      wordField w 28 4 = op ∧ wordField w lo len = 0 ∧ wordField w 0 lo = x := by
  have hsplit : w.toNat % 2 ^ 28 = w.toNat % 2 ^ lo + 2 ^ lo * (w.toNat / 2 ^ lo % 2 ^ len) := by
    rw [← hlen, pow_add, Nat.mod_mul]
  have hw := w.isLt
  have hop := op.isLt
  have hx : x.toNat < 2 ^ 28 := x.isLt.trans_le (Nat.pow_le_pow_right two_pos (by omega))
  simp only [wordField_eq_iff, pow_zero, Nat.div_one]
  constructor
  · intro h
    have hlow : w.toNat % 2 ^ 28 = x.toNat := by omega
    have hdvd : 2 ^ lo ∣ 2 ^ 28 := pow_dvd_pow 2 (by omega)
    have hmod : w.toNat % 2 ^ lo = x.toNat := by
      rw [← Nat.mod_mod_of_dvd _ hdvd, hlow, Nat.mod_eq_of_lt x.isLt]
    have hzero : 2 ^ lo * (w.toNat / 2 ^ lo % 2 ^ len) = 0 := by omega
    refine ⟨by omega, ?_, hmod⟩
    simpa using hzero
  · rintro ⟨hop, hz, hx⟩
    have hlow : w.toNat % 2 ^ 28 = x.toNat := by simpa [hz, hx] using hsplit
    omega

/-- `w` has the opcode and the operands of `i` at their places and 0 in the must-be-zero bits of the format
(30_encoding.md R128, R136). -/
def HasFieldsOf (w : Word) (i : Instr) : Prop :=
  wordField w 28 4 = i.opcode ∧
    match i with
    | .rxe level time =>
      wordField w 27 1 = BitVec.ofBool level ∧ wordField w 16 11 = 0 ∧ wordField w 0 16 = time
    | .wrs slot index value =>
      wordField w 25 3 = 0 ∧ wordField w 24 1 = BitVec.ofBool slot ∧ wordField w 12 12 = 0 ∧
        wordField w 8 4 = index ∧ wordField w 0 8 = value
    | .req bit => wordField w 3 25 = 0 ∧ wordField w 0 3 = bit
    | .clr bit => wordField w 3 25 = 0 ∧ wordField w 0 3 = bit
    | .rdx index => wordField w 4 24 = 0 ∧ wordField w 0 4 = index
    | .rdr number => wordField w 8 20 = 0 ∧ wordField w 0 8 = number
    | .mode value => wordField w 1 27 = 0 ∧ wordField w 0 1 = BitVec.ofBool value
    | .txen value => wordField w 1 27 = 0 ∧ wordField w 0 1 = BitVec.ofBool value
    | .rxen value => wordField w 1 27 = 0 ∧ wordField w 0 1 = BitVec.ofBool value
    | .txt | .sel | .cli | .sei | .reset => wordField w 0 28 = 0

theorem encode_eq_iff {i : Instr} {w : Word} : encode i = w ↔ encodeNat i = w.toNat := by
  rw [← encode_toNat, BitVec.toNat_inj]

/-- Format N (30_encoding.md R129) has no operand. -/
theorem toNat_eq_opcode_iff {w : Word} (op : BitVec 4) :
    w.toNat = op.toNat * 2 ^ 28 ↔ wordField w 28 4 = op ∧ wordField w 0 28 = 0 := by
  simpa [BitVec.of_length_zero] using toNat_eq_lowOperand_iff (w := w) (show 0 + 28 = 28 from rfl) op 0

/-- Format B (30_encoding.md R134) has a one-bit operand. -/
theorem toNat_eq_lowBit_iff {w : Word} (op : BitVec 4) (value : Bool) :
    w.toNat = op.toNat * 2 ^ 28 + value.toNat ↔
      wordField w 28 4 = op ∧ wordField w 1 27 = 0 ∧ wordField w 0 1 = BitVec.ofBool value := by
  rw [← BitVec.toNat_ofBool]
  exact toNat_eq_lowOperand_iff rfl op _

/-- The words of the encoder are those laid out by the formats. -/
theorem encode_eq_iff_hasFieldsOf (i : Instr) (w : Word) : encode i = w ↔ HasFieldsOf w i := by
  rw [encode_eq_iff, eq_comm]
  cases i with
  | rxe level time =>
    have hw := w.isLt
    have ht := time.isLt
    have hl := level.toNat_le
    simp only [HasFieldsOf, encodeNat, Instr.opcode, wordField_eq_iff, BitVec.toNat_ofBool, BitVec.ofNat_eq_ofNat,
      BitVec.toNat_ofNat]
    omega
  | wrs slot index value =>
    have hw := w.isLt
    have hi := index.isLt
    have hv := value.isLt
    have hs := slot.toNat_le
    simp only [HasFieldsOf, encodeNat, Instr.opcode, wordField_eq_iff, BitVec.toNat_ofBool, BitVec.ofNat_eq_ofNat,
      BitVec.toNat_ofNat]
    omega
  | req bit => exact toNat_eq_lowOperand_iff rfl 0x3 bit
  | clr bit => exact toNat_eq_lowOperand_iff rfl 0x4 bit
  | rdx index => exact toNat_eq_lowOperand_iff rfl 0x6 index
  | rdr number => exact toNat_eq_lowOperand_iff rfl 0xD number
  | mode value => exact toNat_eq_lowBit_iff 0x8 value
  | txen value => exact toNat_eq_lowBit_iff 0xB value
  | rxen value => exact toNat_eq_lowBit_iff 0xC value
  | txt => exact toNat_eq_opcode_iff 0x1
  | sel => exact toNat_eq_opcode_iff 0x5
  | cli => exact toNat_eq_opcode_iff 0x9
  | sei => exact toNat_eq_opcode_iff 0xA
  | reset => exact toNat_eq_opcode_iff 0xE

/-! ## Well-formed operands -/

theorem wellFormed_rdx_iff {index : BitVec 4} : (Instr.rdx index).WellFormed ↔ index.toNat ≤ 6 := by
  simp [Instr.WellFormed, Instr.defect]

theorem wellFormed_wrs_iff {slot : Bool} {index : BitVec 4} {value : Byte} :
    (Instr.wrs slot index value).WellFormed ↔ index.toNat ≤ 7 := by
  simp [Instr.WellFormed, Instr.defect]

theorem wellFormed_rdr_iff {number : Byte} :
    (Instr.rdr number).WellFormed ↔ number.toNat ≤ 0x18 ∨ 0x20 ≤ number.toNat ∧ number.toNat ≤ 0x36 := by
  simp [Instr.WellFormed, Instr.defect, regMapped, or_iff_not_imp_left]

/-! ## Decoding the operands -/

theorem needZero_eq_op_iff {zero : Bool} {i j : Instr} : needZero zero i = .op j ↔ zero = true ∧ i = j := by
  cases zero <;> simp [needZero]

theorem needZero_of_ne {len : Nat} {v : BitVec len} (i : Instr) (h : v ≠ 0) :
    needZero (v == 0) i = .illegal .mustBeZero := by
  rw [beq_eq_false_iff_ne.mpr h]
  rfl

theorem decodeOperands_of_hasFieldsOf {i : Instr} {w : Word} (hwf : i.WellFormed) (h : HasFieldsOf w i) :
    decodeOperands w = .op i := by
  obtain ⟨hop, h⟩ := h
  cases i with
  | rxe level time =>
    obtain ⟨hl, hz, ht⟩ := h
    simp [decodeOperands, needZero, hop, Instr.opcode, hl, hz, ht, ofBool_beq_one]
  | wrs slot index value =>
    obtain ⟨hz, hs, hz', hi, hv⟩ := h
    simp [decodeOperands, hop, Instr.opcode, hz, hs, hz', hi, hv, wellFormed_wrs_iff.mp hwf, ofBool_beq_one]
  | rdx index =>
    obtain ⟨hz, hi⟩ := h
    simp [decodeOperands, hop, Instr.opcode, hz, hi, wellFormed_rdx_iff.mp hwf]
  | rdr number =>
    obtain ⟨hz, hr⟩ := h
    simp [decodeOperands, hop, Instr.opcode, hz, hr, wellFormed_rdr_iff.mp hwf]
  | req bit | clr bit =>
    obtain ⟨hz, hb⟩ := h
    simp [decodeOperands, needZero, hop, Instr.opcode, hz, hb]
  | mode value | txen value | rxen value =>
    obtain ⟨hz, hv⟩ := h
    simp [decodeOperands, needZero, hop, Instr.opcode, hz, hv, ofBool_beq_one]
  | txt | sel | cli | sei | reset => simp [decodeOperands, needZero, hop, Instr.opcode, h]

/-- An operation is read only from a word of its format: each opcode's must-be-zero test and operand test give it. -/
theorem hasFieldsOf_of_decodeOperands {i : Instr} {w : Word} (h : decodeOperands w = .op i) :
    i.WellFormed ∧ HasFieldsOf w i := by
  unfold decodeOperands at h
  split at h
  -- RDX
  case h_6 hop =>
    split_ifs at h with hz hle
    cases h
    exact ⟨wellFormed_rdx_iff.mpr hle, BitVec.eq_of_toNat_eq hop, eq_of_beq hz, rfl⟩
  -- WRS
  case h_7 hop =>
    split_ifs at h with hz hle
    cases h
    obtain ⟨hz, hz'⟩ := Bool.and_eq_true_iff.mp hz
    exact ⟨wellFormed_wrs_iff.mpr hle, BitVec.eq_of_toNat_eq hop, eq_of_beq hz, eq_ofBool_beq_one _,
      eq_of_beq hz', rfl, rfl⟩
  -- RDR
  case h_13 hop =>
    split_ifs at h with hz hmap
    cases h
    exact ⟨wellFormed_rdr_iff.mpr hmap, BitVec.eq_of_toNat_eq hop, eq_of_beq hz, rfl⟩
  -- opcodes 0x0 and 0xF
  case h_15 => cases h
  all_goals
    rename_i hop
    obtain ⟨hz, rfl⟩ := needZero_eq_op_iff.mp h
  -- RXE
  case h_2 => exact ⟨rfl, BitVec.eq_of_toNat_eq hop, eq_ofBool_beq_one _, eq_of_beq hz, rfl⟩
  -- REQ and CLR
  case h_3 | h_4 => exact ⟨rfl, BitVec.eq_of_toNat_eq hop, eq_of_beq hz, rfl⟩
  -- MODE, TXEN and RXEN
  case h_8 | h_11 | h_12 => exact ⟨rfl, BitVec.eq_of_toNat_eq hop, eq_of_beq hz, eq_ofBool_beq_one _⟩
  -- TXT, SEL, CLI, SEI and RESET
  case h_1 | h_5 | h_9 | h_10 | h_14 => exact ⟨rfl, BitVec.eq_of_toNat_eq hop, eq_of_beq hz⟩

/-- The decoder reads exactly the words of the well-formed operations. -/
theorem decodeOperands_eq_op_iff {i : Instr} {w : Word} :
    decodeOperands w = .op i ↔ i.WellFormed ∧ HasFieldsOf w i :=
  ⟨hasFieldsOf_of_decodeOperands, fun ⟨hwf, h⟩ => decodeOperands_of_hasFieldsOf hwf h⟩

theorem decodeOperands_encode {i : Instr} (hwf : i.WellFormed) : decodeOperands (encode i) = .op i :=
  decodeOperands_of_hasFieldsOf hwf ((encode_eq_iff_hasFieldsOf i _).mp rfl)

theorem decode_encode {i : Instr} (hwf : i.WellFormed) (a : Agent) :
    decode a (encode i) = if entitled a i then .op i else .illegal .agentNotEntitled := by
  rw [decode, decodeOperands_encode hwf]

theorem decode_eq_op_iff {a : Agent} {w : Word} {i : Instr} :
    decode a w = .op i ↔ decodeOperands w = .op i ∧ entitled a i = true := by
  unfold decode
  cases decodeOperands w with
  | illegal why => simp
  | op j =>
    cases he : entitled a j with
    | false => simpa [he] using fun h : j = i => h ▸ he
    | true => simpa [he] using fun h : j = i => h ▸ he

/-- Settles O5: the encoder lays the word out by its format, and the decoder reads the formats back. -/
theorem decodeOfEncodeIsTheOperation : Obligations.DecodeOfEncodeIsTheOperation := by
  unfold Obligations.DecodeOfEncodeIsTheOperation
  intro a i hwf he
  exact decode_eq_op_iff.mpr ⟨decodeOperands_encode hwf, he⟩

/-- Settles O6: a word that decodes has the fields of its operation, so it is the encoder's word. -/
theorem acceptedWordIsTheWordOfItsOperation : Obligations.AcceptedWordIsTheWordOfItsOperation := by
  unfold Obligations.AcceptedWordIsTheWordOfItsOperation
  intro a w i h
  obtain ⟨hdec, he⟩ := decode_eq_op_iff.mp h
  obtain ⟨hwf, hfields⟩ := decodeOperands_eq_op_iff.mp hdec
  exact ⟨hwf, he, (encode_eq_iff_hasFieldsOf i w).mpr hfields⟩

/-! ## Reserved encodings (30_encoding.md R139) -/

section Reserved

variable {w : Word}

theorem decodeOperands_reservedOpcode (hop : wordField w 28 4 = 0x0 ∨ wordField w 28 4 = 0xF) :
    decodeOperands w = .illegal .reservedOpcode := by
  rcases hop with hop | hop
  · simp [decodeOperands, hop]
  · simp [decodeOperands, hop]

theorem decodeOperands_formatN_illegal (hop : wordField w 28 4 ∈ [0x1#4, 0x5#4, 0x9#4, 0xA#4, 0xE#4])
    (hz : wordField w 0 28 ≠ 0) : decodeOperands w = .illegal .mustBeZero := by
  simp only [List.mem_cons, List.not_mem_nil, or_false] at hop
  rcases hop with hop | hop | hop | hop | hop
  all_goals simpa [decodeOperands, hop] using needZero_of_ne _ hz

theorem decodeOperands_formatE_illegal (hop : wordField w 28 4 = 0x2) (hz : wordField w 16 11 ≠ 0) :
    decodeOperands w = .illegal .mustBeZero := by
  simpa [decodeOperands, hop] using needZero_of_ne _ hz

theorem decodeOperands_formatK_illegal (hop : wordField w 28 4 ∈ [0x3#4, 0x4#4]) (hz : wordField w 3 25 ≠ 0) :
    decodeOperands w = .illegal .mustBeZero := by
  simp only [List.mem_cons, List.not_mem_nil, or_false] at hop
  rcases hop with hop | hop
  all_goals simpa [decodeOperands, hop] using needZero_of_ne _ hz

theorem decodeOperands_formatB_illegal (hop : wordField w 28 4 ∈ [0x8#4, 0xB#4, 0xC#4])
    (hz : wordField w 1 27 ≠ 0) : decodeOperands w = .illegal .mustBeZero := by
  simp only [List.mem_cons, List.not_mem_nil, or_false] at hop
  rcases hop with hop | hop | hop
  all_goals simpa [decodeOperands, hop] using needZero_of_ne _ hz

theorem decodeOperands_formatX_illegal (hop : wordField w 28 4 = 0x6)
    (h : wordField w 4 24 ≠ 0 ∨ 7 ≤ (wordField w 0 4).toNat) : ∃ why, decodeOperands w = .illegal why := by
  by_cases hz : wordField w 4 24 = 0
  · have hidx : ¬ (wordField w 0 4).toNat ≤ 6 := Nat.not_le.mpr (h.resolve_left (not_not_intro hz))
    exact ⟨.indexOutOfRange, by simp [decodeOperands, hop, hz, hidx]⟩
  · exact ⟨.mustBeZero, by simp [decodeOperands, hop, show wordField w 4 24 ≠ 0#24 from hz]⟩

theorem decodeOperands_formatW_illegal (hop : wordField w 28 4 = 0x7)
    (h : wordField w 25 3 ≠ 0 ∨ wordField w 12 12 ≠ 0 ∨ 8 ≤ (wordField w 8 4).toNat) :
    ∃ why, decodeOperands w = .illegal why := by
  by_cases hz : (wordField w 25 3 == 0 && wordField w 12 12 == 0) = true
  · obtain ⟨hz, hz'⟩ := Bool.and_eq_true_iff.mp hz
    have hidx : ¬ (wordField w 8 4).toNat ≤ 7 := Nat.not_le.mpr
      ((h.resolve_left (not_not_intro (eq_of_beq hz))).resolve_left (not_not_intro (eq_of_beq hz')))
    exact ⟨.indexOutOfRange, by simp [decodeOperands, hop, eq_of_beq hz, eq_of_beq hz', hidx]⟩
  · exact ⟨.mustBeZero, by simpa [decodeOperands, hop] using fun h h' => absurd (by simp [h, h']) hz⟩

theorem decodeOperands_formatG_illegal (hop : wordField w 28 4 = 0xD)
    (h : wordField w 8 20 ≠ 0 ∨ 0x19 ≤ (wordField w 0 8).toNat ∧ (wordField w 0 8).toNat ≤ 0x1F ∨
      0x37 ≤ (wordField w 0 8).toNat) : ∃ why, decodeOperands w = .illegal why := by
  by_cases hz : wordField w 8 20 = 0
  · have hnum : ¬ ((wordField w 0 8).toNat ≤ 0x18 ∨
        0x20 ≤ (wordField w 0 8).toNat ∧ (wordField w 0 8).toNat ≤ 0x36) := by
      have := h.resolve_left (not_not_intro hz)
      omega
    exact ⟨.reservedRegister, by simp [decodeOperands, hop, hz, hnum]⟩
  · exact ⟨.mustBeZero, by simp [decodeOperands, hop, show wordField w 8 20 ≠ 0#20 from hz]⟩

theorem decode_illegal_of_decodeOperands (a : Agent) (h : ∃ why, decodeOperands w = .illegal why) :
    ∃ why, decode a w = .illegal why := by
  obtain ⟨why, h⟩ := h
  exact ⟨why, by rw [decode, h]⟩

end Reserved

end Sys2Proof

namespace Sys2Proof.Machine

/-! ## Delivery by the agents (30_encoding.md R137, R139) -/

/-- A word that decode rejects raises `ILLEGAL_OP` (60_exceptions.md R302). -/
theorem deliver_of_decode_illegal {d : Delivery} {s : State} {why : Reject} (hf : s.fault = 0)
    (h : decode d.agent d.word = .illegal why) : deliver d s = .next { s with fault := 0x01 } := by
  rw [deliver, h]
  exact whenEnabled_effect hf rfl

/-- Settles O8: the operands of a reserved encoding are rejected, whatever the agent. -/
theorem reservedEncodingsAreIllegal : Obligations.ReservedEncodingsAreIllegal := by
  unfold Obligations.ReservedEncodingsAreIllegal
  intro a w s hf h
  have hrejected : ∃ why, decodeOperands w = .illegal why := by
    rcases h with h | h | ⟨hop, hz⟩ | ⟨hop, hz⟩ | ⟨hop, hz⟩ | ⟨hop, h⟩ | ⟨hop, h⟩ | ⟨hop, hz⟩ | ⟨hop, h⟩
    · exact ⟨_, decodeOperands_reservedOpcode (.inl h)⟩
    · exact ⟨_, decodeOperands_reservedOpcode (.inr h)⟩
    · exact ⟨_, decodeOperands_formatN_illegal hop hz⟩
    · exact ⟨_, decodeOperands_formatE_illegal hop hz⟩
    · exact ⟨_, decodeOperands_formatK_illegal hop hz⟩
    · exact decodeOperands_formatX_illegal hop h
    · exact decodeOperands_formatW_illegal hop h
    · exact ⟨_, decodeOperands_formatB_illegal hop hz⟩
    · exact decodeOperands_formatG_illegal hop h
  obtain ⟨why, hdec⟩ := decode_illegal_of_decodeOperands a hrejected
  exact deliver_of_decode_illegal hf hdec

/-- The word of a well-formed operation executes it for an entitled agent and raises `ILLEGAL_OP` for any other. -/
theorem deliver_encode {i : Instr} {s : State} (a : Agent) (hwf : i.WellFormed) (hf : s.fault = 0) :
    deliver ⟨a, encode i⟩ s = if entitled a i = true then exec i s else .next { s with fault := 0x01 } := by
  have hdec := decode_encode hwf a
  split_ifs at hdec ⊢
  · rw [deliver, hdec]
  · exact deliver_of_decode_illegal hf hdec

/-- Settles O9: `entitled` is the pairing of words and agents that the rule states. -/
theorem agentEntitlement : Obligations.AgentEntitlement := by
  unfold Obligations.AgentEntitlement
  intro a i s hwf hf
  rw [deliver_encode a hwf hf]
  cases i with
  | reset => cases a <;> rfl
  | _ => rfl

end Sys2Proof.Machine

namespace Sys2Proof.Machine

/-! ## Bit timing and the legal configurations (40_bit_timing.md R162, R163) -/

section Timing

variable {p : Params} {e : Ticks}

theorem legalConfig_iff :
    legalConfig p = true ↔
      1 ≤ p.preambleBits.toNat ∧ 0 < p.tickNs ∧ p.halfShort.toNat < p.halfLong.toNat ∧
        p.halfShort.toNat ≤ p.rxThreshold.toNat ∧ p.rxThreshold.toNat < p.halfLong.toNat ∧
        3 ≤ p.idlePacket.length ∧ p.idlePacket.length ≤ 6 := by
  simp only [legalConfig, Bool.and_eq_true, decide_eq_true_eq, and_assoc, Nat.succ_le_iff]

theorem classify_eq_true_iff : classify p e = true ↔ e.toNat ≤ p.rxThreshold.toNat := decide_eq_true_iff

theorem classify_eq_false_iff : classify p e = false ↔ p.rxThreshold.toNat < e.toNat :=
  decide_eq_false_iff_not.trans Nat.not_le

/-- The threshold is below `HALF_LONG`, so the tick after it does not wrap. -/
theorem rxThreshold_succ_toNat (h : p.rxThreshold.toNat < p.halfLong.toNat) :
    (p.rxThreshold + 1).toNat = p.rxThreshold.toNat + 1 :=
  BitVec.toNat_add_of_lt (Nat.lt_of_le_of_lt h p.halfLong.isLt)

end Timing

/-- Settles O22: each classification is one of the legal configuration's own inequalities. -/
theorem legalTimingClassifies : Obligations.LegalTimingClassifies := by
  unfold Obligations.LegalTimingClassifies
  intro p h
  obtain ⟨-, -, -, hshort, hlong, -, -⟩ := legalConfig_iff.mp h
  refine ⟨classify_eq_true_iff.mpr hshort, classify_eq_false_iff.mpr hlong, classify_eq_true_iff.mpr le_rfl,
    classify_eq_false_iff.mpr ?_⟩
  rw [rxThreshold_succ_toNat hlong]
  exact Nat.lt_succ_self _

/-! ## What is refused: no operation and no word, only a step of an illegal configuration -/

section Refusals

variable {s : State} {why : Refusal}

theorem whenEnabled_ne_refused {e : Bool} {r : Result} (h : r ≠ .refused why) : whenEnabled s e r ≠ .refused why := by
  unfold whenEnabled
  split_ifs
  · nofun
  · exact h
  · nofun

theorem latchRead_ne_refused (o : Option Byte) : latchRead s o ≠ .refused why := by
  cases o with
  | some v => nofun
  | none => nofun

theorem advanceHalf_ne_refused : advanceHalf s ≠ .refused why := by
  unfold advanceHalf
  cases txStep s with
  | sends d t => nofun
  | badSize => nofun
  | noCell => nofun

theorem execTxt_ne_refused : execTxt s ≠ .refused why := by
  refine whenEnabled_ne_refused ?_
  cases s.txPhase with
  | hold => nofun
  | advance => exact advanceHalf_ne_refused

theorem execWrs_ne_refused (k : Bool) (n : BitVec 4) (v : Byte) : execWrs k n v s ≠ .refused why := by
  refine whenEnabled_ne_refused ?_
  cases slotWrite (s.slot k) n.toNat v with
  | some m => nofun
  | none => nofun

theorem exec_ne_refused (i : Instr) : exec i s ≠ .refused why := by
  cases i with
  | txt => exact execTxt_ne_refused
  | wrs k n v => exact execWrs_ne_refused k n v
  | rdx n => exact whenEnabled_ne_refused (latchRead_ne_refused _)
  | rdr r => exact whenEnabled_ne_refused (latchRead_ne_refused _)
  | _ => exact whenEnabled_ne_refused nofun

theorem deliver_ne_refused (d : Delivery) : deliver d s ≠ .refused why := by
  unfold deliver
  cases decode d.agent d.word with
  | op i => exact exec_ne_refused i
  | illegal _ => exact whenEnabled_ne_refused nofun

theorem step_of_illegalConfig (h : ¬ legalConfig s.cfg = true) : step s = .refused .illegalConfiguration := if_neg h

theorem step_ne_refused_of_legalConfig (h : legalConfig s.cfg = true) : step s ≠ .refused why := by
  rw [step, nextStep, if_pos h]
  split_ifs
  · nofun
  · cases firstDeliverable s s.inbox with
    | some p => exact deliver_ne_refused p.1
    | none => nofun

end Refusals

/-- Settles O16: past the test of the configuration a step delivers a word, halts or stands, and none of these refuses. -/
theorem onlyIllegalConfigurationsAreRefused : Obligations.OnlyIllegalConfigurationsAreRefused := by
  unfold Obligations.OnlyIllegalConfigurationsAreRefused
  intro s
  rw [← legalConfig_iff]
  constructor
  · rintro ⟨why, hrefused⟩ hlegal
    exact step_ne_refused_of_legalConfig hlegal hrefused
  · exact fun hillegal => ⟨_, step_of_illegalConfig hillegal⟩

end Sys2Proof.Machine

namespace Sys2Proof.Machine

/-! ## One TXT of the encoder, case by case (41_tx_encoder.md R170 to R180) -/

section TxtSteps

variable {s u : State} {d : CellTiming}

/-- The duration of a half-cell (40_bit_timing.md R160). -/
theorem timing_eq_ite (p : Params) (d : CellTiming) : timing p d = if d = .short then p.halfShort else p.halfLong := by
  cases d <;> rfl

/-- In HOLD phase an enabled TXT is the HOLD half-cell (41_tx_encoder.md R171). -/
theorem exec_txt_hold (hf : s.fault = 0) (he : s.txtEnabled = true) (hph : s.txPhase = .hold) :
    exec .txt s = .next (holdHalf s) := by
  rw [exec, execTxt, whenEnabled_effect hf he, hph]

/-- In ADVANCE phase an enabled TXT drives the first half-cell of the bit that `TxStep()` begins (41_tx_encoder.md
R172). -/
theorem exec_txt_sends (hs : s.TxReady) (h : txStep s = .sends d u) :
    exec .txt s = .next (driveHalf false d { u with txLatch := d, txPhase := .hold }) := by
  rw [exec, execTxt, whenEnabled_effect hs.fault hs.txtEnabled, hs.phase]
  simp only [advanceHalf, h]

/-! ### `TxStep()` in PREAMBLE and EXTENDPREAMBLE -/

/-- PREAMBLE before its last bit only counts (41_tx_encoder.md R174). -/
theorem txStep_preamble_counts (hst : s.txState = .preamble) (hcnt : s.txPreCnt ≠ 1) :
    txStep s = .sends .short { s with txPreCnt := s.txPreCnt - 1 } := by
  have hne : ¬ s.txPreCnt - 1 = 0 := sub_ne_zero.mpr hcnt
  simp only [txStep, hst, txPreamble, if_neg hne]

/-- The last bit of PREAMBLE queries the message source (41_tx_encoder.md R175). -/
theorem txStep_preamble_last (hst : s.txState = .preamble) (hcnt : s.txPreCnt = 1)
    (hquery : txQuery { s with txPreCnt := 0 } = u) : txStep s = .sends .short u := by
  have hzero : s.txPreCnt - 1 = 0 := sub_eq_zero.mpr hcnt
  rw [← hquery]
  simp only [txStep, hst, txPreamble, hzero, if_true]

/-- EXTENDPREAMBLE tests its counter after the decrement (41_tx_encoder.md R180). -/
theorem txStep_extendPreamble (hst : s.txState = .extendPreamble) :
    txStep s = .sends .short { s with
      txExtCnt := s.txExtCnt - 1, txState := if s.txExtCnt = 1 then .separator else .extendPreamble } := by
  simp only [txStep, hst, txExtendPreamble, sub_eq_zero]
  split
  · rfl
  · rw [← hst]

/-! ### The query of the message source -/

/-- The answer that a query takes: the next one fixed in advance, else a free value (41_tx_encoder.md R176; log
entry 4). -/
theorem takeAnswer_fst (s : State) : (takeAnswer s).1 = s.answers.headD (Config.sourceAnswer s.draws) := by
  unfold takeAnswer
  cases s.answers <;> rfl

/-- The state after a query: the answer is used up (log entry 4). -/
theorem takeAnswer_snd (s : State) :
    (takeAnswer s).2 =
      { s with answers := s.answers.tail, draws := if s.answers = [] then s.draws + 1 else s.draws } := by
  unfold takeAnswer
  cases s.answers <;> simp

/-- A ready source selects slot 0, and asks for a longer preamble where it is implemented (41_tx_encoder.md R178). -/
theorem txReady_eq (s : State) :
    txReady s =
      let longer := s.cfg.extPreambleImpl = true ∧ s.cfg.preambleBits.toNat < s.slot0.pre.toNat
      { s with
        txByteIdx := 0, txSlot := false
        txExtCnt := if longer then s.slot0.pre - s.cfg.preambleBits else s.txExtCnt
        txState := if longer then .extendPreamble else .separator } := by
  simp only [txReady, Bool.and_eq_true, decide_eq_true_eq, BitVec.lt_def]
  split <;> rfl

theorem txUnderrun_stretch (h : s.cfg.underrunPolicy = .stretch) : txUnderrun s = { s with txPreCnt := 1 } := by
  rw [txUnderrun, h]

theorem txUnderrun_idleSubst (h : s.cfg.underrunPolicy = .idleSubst) :
    txUnderrun s = { s with txByteIdx := 0, txSlot := true, txState := .separator } := by
  rw [txUnderrun, h]

/-- A ready answer's message, if any, is in slot 0 before `PRE` is read (41_tx_encoder.md R175, R176, R178). -/
theorem txQuery_ready (h : (s.answers.headD (Config.sourceAnswer s.draws)).ready = true) :
    txQuery s =
      let m := (s.answers.headD (Config.sourceAnswer s.draws)).msg.getD s.slot0
      let longer := s.cfg.extPreambleImpl = true ∧ s.cfg.preambleBits.toNat < m.pre.toNat
      { s with
        slot0 := m, txByteIdx := 0, txSlot := false
        txExtCnt := if longer then m.pre - s.cfg.preambleBits else s.txExtCnt
        txState := if longer then .extendPreamble else .separator
        answers := s.answers.tail, draws := if s.answers = [] then s.draws + 1 else s.draws } := by
  simp only [txQuery, takeAnswer_fst, takeAnswer_snd, acceptAnswer_eq, h, if_true, txReady_eq]

/-- An answer that is not ready writes no slot and leaves the underrun to the policy (41_tx_encoder.md R175). -/
theorem txQuery_not_ready (h : (s.answers.headD (Config.sourceAnswer s.draws)).ready = false) :
    txQuery s = txUnderrun { s with
      answers := s.answers.tail, draws := if s.answers = [] then s.draws + 1 else s.draws } := by
  simp only [txQuery, takeAnswer_fst, takeAnswer_snd, h, Bool.false_eq_true, if_false]

end TxtSteps

/-- Settles O25: the last bit of PREAMBLE queries a source whose answer is ready. -/
theorem txtReadyStartsTheMessage : Obligations.TxtReadyStartsTheMessage := by
  unfold Obligations.TxtReadyStartsTheMessage
  intro s hf hie htx hph hst hcnt hready
  exact exec_txt_sends ⟨hf, hie, htx, hph⟩ (txStep_preamble_last hst hcnt (txQuery_ready hready))

/-- Settles O26: the last bit of PREAMBLE queries a source whose answer is not ready, and each policy is one case of the
underrun. -/
theorem txtUnderrunFollowsThePolicy : Obligations.TxtUnderrunFollowsThePolicy := by
  unfold Obligations.TxtUnderrunFollowsThePolicy
  intro s hf hie htx hph hst hcnt hready
  have hquery := txQuery_not_ready (s := { s with txPreCnt := 0 }) hready
  constructor
  · intro hpolicy
    exact exec_txt_sends ⟨hf, hie, htx, hph⟩
      (txStep_preamble_last hst hcnt (hquery.trans (txUnderrun_stretch hpolicy)))
  · intro hpolicy
    exact exec_txt_sends ⟨hf, hie, htx, hph⟩
      (txStep_preamble_last hst hcnt (hquery.trans (txUnderrun_idleSubst hpolicy)))

/-- Settles O23: the HOLD half-cell repeats the latched duration. -/
theorem txtHoldHalf : Obligations.TxtHoldHalf := by
  unfold Obligations.TxtHoldHalf
  intro s hf hie htx hph
  have henabled : s.txtEnabled = true := by rw [State.txtEnabled, hie, htx, Bool.and_self]
  rw [exec_txt_hold hf henabled hph, ← timing_eq_ite]
  rfl

/-- Settles O24: PREAMBLE before its last bit. -/
theorem txtPreambleCounts : Obligations.TxtPreambleCounts := by
  unfold Obligations.TxtPreambleCounts
  intro s hf hie htx hph hst hcnt
  exact exec_txt_sends ⟨hf, hie, htx, hph⟩ (txStep_preamble_counts hst hcnt)

/-- Settles O27: one bit of EXTENDPREAMBLE. -/
theorem txtExtendPreamble : Obligations.TxtExtendPreamble := by
  unfold Obligations.TxtExtendPreamble
  intro s hf hie htx hph hst
  exact exec_txt_sends ⟨hf, hie, htx, hph⟩ (txStep_extendPreamble hst)

end Sys2Proof.Machine

namespace Sys2Proof.Machine

/-! ## One RXE of the decoder, case by case (42_rx_decoder.md R210 to R224) -/

/-- The time between two timestamps, modulo 2^16 (42_rx_decoder.md R214). -/
theorem toNat_ticks_sub (time start : Ticks) :
    (time - start).toNat = (time.toNat + 2 ^ 16 - start.toNat) % 2 ^ 16 := by
  rw [BitVec.toNat_sub', ← Nat.add_sub_assoc start.isLt.le]

/-- The mask of a task is the power of two of its bit (30_encoding.md R126). -/
theorem taskMask_eq_twoPow (b : BitVec 3) : taskMask b = BitVec.twoPow 8 b.toNat := rfl

/-- Shifting a bit into the accumulator, most significant bit first (42_rx_decoder.md R220). -/
theorem shiftLeft_or_bitByte (acc : Byte) (b : Bool) :
    acc <<< 1 ||| bitByte b = BitVec.ofNat 8 (2 * acc.toNat + b.toNat) := by
  have hdisjoint : acc <<< 1 &&& bitByte b = 0 := by
    ext i hi
    cases i <;> simp [bitByte]
  rw [← BitVec.add_eq_or_of_and_eq_zero _ _ hdisjoint]
  apply BitVec.eq_of_toNat_eq
  cases b <;> simp [bitByte, Nat.shiftLeft_eq, Nat.mul_comm]

/-! ### What the state machine neither reads nor writes -/

/-- The state with the given `RX_DIAG`, mode, clean output and trace of it (42_rx_decoder.md R211, R213). -/
def withOutput (diag : BitVec 16) (mode pin : Bool) (trace : List Bool) (s : State) : State :=
  { s with rxDiag := diag, mode := mode, cleanPin := pin, cleanTrace := trace }

/-- `RxStep(b)` neither reads nor writes the mode, the clean output, its trace and `RX_DIAG` (42_rx_decoder.md R213). -/
theorem rxStep_withOutput (b : Bool) (diag : BitVec 16) (mode pin : Bool) (trace : List Bool) (s : State) :
    rxStep b (withOutput diag mode pin trace s) = withOutput diag mode pin trace (rxStep b s) := by
  have hst : (withOutput diag mode pin trace s).rxState = s.rxState := rfl
  simp only [rxStep, hst]
  split
  · simp only [rxPreamble, apply_ite (withOutput diag mode pin trace)]
    rfl
  · simp only [rxStartBit, apply_ite (withOutput diag mode pin trace)]
    rfl
  · simp only [rxData, apply_ite (withOutput diag mode pin trace)]
    rfl
  · have hvalid : validPacket (withOutput diag mode pin trace s).rxScratch
        (withOutput diag mode pin trace s).rxByteCnt = validPacket s.rxScratch s.rxByteCnt := rfl
    simp only [rxEndBit, hvalid]
    split
    · split <;> rfl
    · rfl

/-- A falling edge steps the state machine by the bit it classifies, and drives the clean output and `RX_DIAG`
(42_rx_decoder.md R210, R211, R213). -/
theorem edgeStep_falling_withOutput (time : Ticks) (s : State) :
    edgeStep false time s =
      let u := rxStep (classify s.cfg (time - s.rxStart)) s
      let out := if s.mode then false else s.cfg.forcedLevel
      withOutput (if u.rxState = s.rxState then s.rxDiag + 1 else 0) s.mode out (s.cleanTrace ++ [out]) u := by
  have hout : cleanOut false { s with rxDiag := s.rxDiag + 1 } =
      let out := if s.mode then false else s.cfg.forcedLevel
      withOutput (s.rxDiag + 1) s.mode out (s.cleanTrace ++ [out]) s := rfl
  rw [edgeStep_falling, hout, rxStep_withOutput]
  rfl

/-- An edge in another mode and with another clean output: only these differ after it (42_rx_decoder.md R213). -/
theorem edgeStep_withOutput (level : Bool) (time : Ticks) (mode pin : Bool) (trace : List Bool) (s : State) :
    edgeStep level time (withOutput s.rxDiag mode pin trace s) =
      let out := if mode then level else s.cfg.forcedLevel
      withOutput (edgeStep level time s).rxDiag mode out (trace ++ [out]) (edgeStep level time s) := by
  cases level with
  | true => rfl
  | false =>
    rw [edgeStep_falling_withOutput, edgeStep_falling_withOutput, rxStep_withOutput]
    rfl

section RxeSteps

variable {s u : State} {time : Ticks} {b : Bool}

theorem State.rxeEnabled_eq_true (hie : s.ie = true) (hrx : s.rxEn = true) : s.rxeEnabled = true := by
  rw [State.rxeEnabled, hie, hrx, Bool.and_self]

/-- An enabled RXE has the effect of its edge (42_rx_decoder.md R210). -/
theorem exec_rxe (hf : s.fault = 0) (he : s.rxeEnabled = true) (level : Bool) (time : Ticks) :
    exec (.rxe level time) s = .next (edgeStep level time s) := by
  rw [exec, execRxe, whenEnabled_effect hf he]

/-- A high time above the threshold is a "0" (42_rx_decoder.md R214, R215). -/
theorem classify_of_lt (h : s.cfg.rxThreshold.toNat < (time.toNat + 2 ^ 16 - s.rxStart.toNat) % 2 ^ 16) :
    classify s.cfg (time - s.rxStart) = false :=
  classify_eq_false_iff.mpr (by rwa [toNat_ticks_sub])

/-- A high time up to the threshold is a "1" (42_rx_decoder.md R214, R215). -/
theorem classify_of_le (h : (time.toNat + 2 ^ 16 - s.rxStart.toNat) % 2 ^ 16 ≤ s.cfg.rxThreshold.toNat) :
    classify s.cfg (time - s.rxStart) = true :=
  classify_eq_true_iff.mpr (by rwa [toNat_ticks_sub])

/-- The bit of the measured high time (42_rx_decoder.md R214, R215). -/
theorem toNat_classify :
    (classify s.cfg (time - s.rxStart)).toNat =
      if s.cfg.rxThreshold.toNat < (time.toNat + 2 ^ 16 - s.rxStart.toNat) % 2 ^ 16 then 0 else 1 := by
  split
  · rw [classify_of_lt ‹_›, Bool.toNat_false]
  · rw [classify_of_le (Nat.not_lt.mp ‹_›), Bool.toNat_true]

/-- A falling edge that keeps the decoder's state counts in `RX_DIAG` (42_rx_decoder.md R211). -/
theorem exec_rxe_stays (hf : s.fault = 0) (he : s.rxeEnabled = true)
    (hb : classify s.cfg (time - s.rxStart) = b) (hu : rxStep b s = u) (hst : u.rxState = s.rxState) :
    let out := if s.mode then false else s.cfg.forcedLevel
    exec (.rxe false time) s =
      .next (withOutput (s.rxDiag + 1) s.mode out (s.cleanTrace ++ [out]) u) := by
  simp only [exec_rxe hf he, edgeStep_falling_withOutput, hb, hu, if_pos hst]

/-- A falling edge that changes the decoder's state clears `RX_DIAG` (42_rx_decoder.md R211). -/
theorem exec_rxe_moves (hf : s.fault = 0) (he : s.rxeEnabled = true)
    (hb : classify s.cfg (time - s.rxStart) = b) (hu : rxStep b s = u) (hst : u.rxState ≠ s.rxState) :
    let out := if s.mode then false else s.cfg.forcedLevel
    exec (.rxe false time) s = .next (withOutput 0 s.mode out (s.cleanTrace ++ [out]) u) := by
  simp only [exec_rxe hf he, edgeStep_falling_withOutput, hb, hu, if_neg hst]

/-! ### `RxStep(b)` in each state -/

/-- A "0" breaks the run of ones (42_rx_decoder.md R217). -/
theorem rxStep_preamble_zero (hst : s.rxState = .preamble) : rxStep false s = { s with rxOnes := 0 } := by
  simp only [rxStep, hst, rxPreamble, Bool.false_eq_true, if_false]

/-- A "1" after at most 10 ones counts (42_rx_decoder.md R218). -/
theorem rxStep_preamble_counts (hst : s.rxState = .preamble) (hones : s.rxOnes.toNat ≤ 10) :
    rxStep true s = { s with rxOnes := s.rxOnes + 1 } := by
  have hlimit : ¬ rxPreambleLimit < s.rxOnes := Nat.not_lt.mpr hones
  simp only [rxStep, hst, rxPreamble, if_true, if_neg hlimit]

/-- The "1" after 11 ones ends the preamble with the scratch buffer cleared (42_rx_decoder.md R218). -/
theorem rxStep_preamble_last (hst : s.rxState = .preamble) (hones : 10 < s.rxOnes.toNat) :
    rxStep true s = { s with rxOnes := 0, rxScratch := Cells.zero, rxAcc := 0, rxState := .startBit } := by
  have hlimit : rxPreambleLimit < s.rxOnes := hones
  simp only [rxStep, hst, rxPreamble, if_true, if_pos hlimit]

/-- START_BIT waits for the "0" (42_rx_decoder.md R219). -/
theorem rxStep_startBit (hst : s.rxState = .startBit) (b : Bool) :
    rxStep b s = if b then s else { s with rxBitCnt := 0, rxByteCnt := 0, rxState := .data } := by
  rw [rxStep, hst]
  rfl

/-- DATA before its 8th bit (42_rx_decoder.md R220). -/
theorem rxStep_data_shifts (hst : s.rxState = .data) (hcnt : s.rxBitCnt ≠ 7) (b : Bool) :
    rxStep b s =
      { s with rxAcc := BitVec.ofNat 8 (2 * s.rxAcc.toNat + b.toNat), rxBitCnt := s.rxBitCnt + 1 } := by
  have hne : ¬ s.rxBitCnt + 1 = 7 + 1 := fun h => hcnt (add_right_cancel h)
  rw [← shiftLeft_or_bitByte]
  simp only [rxStep, hst, rxData]
  exact if_neg hne

/-- The 8th bit of a byte (42_rx_decoder.md R221). -/
theorem rxStep_data_eighth (hst : s.rxState = .data) (hcnt : s.rxBitCnt = 7) (b : Bool) :
    rxStep b s =
      rxByteDone { s with rxAcc := BitVec.ofNat 8 (2 * s.rxAcc.toNat + b.toNat), rxBitCnt := s.rxBitCnt + 1 } := by
  have height : s.rxBitCnt + 1 = 7 + 1 := congrArg (· + 1) hcnt
  rw [← shiftLeft_or_bitByte]
  simp only [rxStep, hst, rxData]
  exact if_pos height

/-- A byte beyond the sixth is dropped (42_rx_decoder.md R221). -/
theorem rxByteDone_rxScratch_toList (s : State) :
    (rxByteDone s).rxScratch.toList =
      if s.rxByteCnt.toNat < 6 then s.rxScratch.toList.set s.rxByteCnt.toNat s.rxAcc else s.rxScratch.toList := by
  rw [rxByteDone_rxScratch, apply_ite Cells.toList, Cells.toList_write]

/-- The byte index saturates at 7 (42_rx_decoder.md R221). -/
theorem rxByteDone_rxByteCnt_toNat (s : State) :
    (rxByteDone s).rxByteCnt.toNat = min (s.rxByteCnt.toNat + 1) 7 := by
  rw [rxByteDone_rxByteCnt, BitVec.toNat_ofNat]
  omega

/-- A "0" after a byte goes on with the next one (42_rx_decoder.md R222). -/
theorem rxStep_endBit_zero (hst : s.rxState = .endBit) : rxStep false s = { s with rxState := .data } := by
  rw [rxStep, hst]
  rfl

/-- A "1" after a byte ends the packet; a valid one is exported (42_rx_decoder.md R223, R224). -/
theorem rxStep_endBit_valid (hst : s.rxState = .endBit) (hv : validPacket s.rxScratch s.rxByteCnt = true) :
    rxStep true s = { exportPacket s with rxState := .preamble } := by
  simp only [rxStep, hst, rxEndBit, hv, if_true]

/-- A packet that is not valid is dropped (42_rx_decoder.md R223, R225). -/
theorem rxStep_endBit_invalid (hst : s.rxState = .endBit) (hv : validPacket s.rxScratch s.rxByteCnt = false) :
    rxStep true s = { s with rxState := .preamble } := by
  simp only [rxStep, hst, rxEndBit, hv, if_true, Bool.false_eq_true, if_false]

end RxeSteps

/-- Settles O44: a masked edge leaves both states, and an enabled one has the effect of `edgeStep_withOutput`. -/
theorem modeNeverChangesDecoding : Obligations.ModeNeverChangesDecoding := by
  unfold Obligations.ModeNeverChangesDecoding
  intro level mode pin trace time s t h
  obtain ⟨hf, ⟨he, ht⟩ | ⟨hmasked, rfl⟩⟩ := whenEnabled_next h
  · cases ht
    have hother := exec_rxe (s := withOutput s.rxDiag mode pin trace s) hf he level time
    rw [edgeStep_withOutput] at hother
    exact ⟨_, _, hother⟩
  · exact ⟨pin, trace, whenEnabled_masked hf hmasked⟩

/-- Settles O37: a "0", a "1" that counts and the "1" that ends the preamble. -/
theorem rxeFallingInPreamble : Obligations.RxeFallingInPreamble := by
  unfold Obligations.RxeFallingInPreamble
  intro s time hf hie hrx hst e out
  have hen := State.rxeEnabled_eq_true hie hrx
  have hleaves : RxState.startBit ≠ s.rxState := by simp [hst]
  refine ⟨fun he => ?_, fun he hones => ?_, fun he hones => ?_⟩
  · exact exec_rxe_stays hf hen (classify_of_lt he) (rxStep_preamble_zero hst) rfl
  · exact exec_rxe_stays hf hen (classify_of_le he) (rxStep_preamble_counts hst hones) rfl
  · exact exec_rxe_moves hf hen (classify_of_le he) (rxStep_preamble_last hst hones) hleaves

/-- Settles O38: a "0" leaves START_BIT, a "1" stays in it. -/
theorem rxeFallingInStartBit : Obligations.RxeFallingInStartBit := by
  unfold Obligations.RxeFallingInStartBit
  intro s time hf hie hrx hst e out
  have hen := State.rxeEnabled_eq_true hie hrx
  have hleaves : RxState.data ≠ s.rxState := by simp [hst]
  constructor
  · intro he
    exact exec_rxe_moves hf hen (classify_of_lt he) (rxStep_startBit hst false) hleaves
  · intro he
    exact exec_rxe_stays hf hen (classify_of_le he) (rxStep_startBit hst true) rfl

/-- Settles O39: the bit of the classification is shifted in, and the 8th bit stores the byte. -/
theorem rxeFallingInData : Obligations.RxeFallingInData := by
  unfold Obligations.RxeFallingInData
  intro s time hf hie hrx hst e bit acc out
  have hen := State.rxeEnabled_eq_true hie hrx
  have hleaves : RxState.endBit ≠ s.rxState := by simp [hst]
  have hacc : acc = BitVec.ofNat 8 (2 * s.rxAcc.toNat + (classify s.cfg (time - s.rxStart)).toNat) := by
    rw [toNat_classify]
  rw [hacc]
  constructor
  · intro hcnt
    exact exec_rxe_stays hf hen rfl (rxStep_data_shifts hst hcnt _) rfl
  · intro hcnt
    exact ⟨_, exec_rxe_moves hf hen rfl (rxStep_data_eighth hst hcnt _) hleaves, rfl,
      rxByteDone_rxScratch_toList _, rxByteDone_rxByteCnt_toNat _⟩

/-- Settles O40: a "0" goes on, and a "1" exports a valid packet and drops any other. -/
theorem rxeFallingInEndBit : Obligations.RxeFallingInEndBit := by
  unfold Obligations.RxeFallingInEndBit
  intro s time hf hie hrx hst e out
  have hen := State.rxeEnabled_eq_true hie hrx
  have hgoesOn : RxState.data ≠ s.rxState := by simp [hst]
  have hends : RxState.preamble ≠ s.rxState := by simp [hst]
  refine ⟨fun he => ?_, fun he hv => ?_, fun he hv => ?_⟩
  · exact exec_rxe_moves hf hen (classify_of_lt he) (rxStep_endBit_zero hst) hgoesOn
  · rw [← taskMask_eq_twoPow]
    exact exec_rxe_moves hf hen (classify_of_le he) (rxStep_endBit_valid hst hv) hends
  · exact exec_rxe_moves hf hen (classify_of_le he) (rxStep_endBit_invalid hst hv) hends

/-- Settles O36: the effect of an enabled RXE is that of its rising edge. -/
theorem rxeRisingEdge : Obligations.RxeRisingEdge := by
  unfold Obligations.RxeRisingEdge
  intro s time hf hie hrx
  rw [exec_rxe hf (State.rxeEnabled_eq_true hie hrx), edgeStep_rising]

end Sys2Proof.Machine

namespace Sys2Proof.Machine

/-! ## The scheduler (43_scheduler.md R250 to R253) -/

/-! ### The flag byte, bit by bit -/

@[simp] theorem getLsbD_taskMask (b : BitVec 3) (k : Nat) : (taskMask b).getLsbD k = decide (k = b.toNat) := by
  have hb : b.toNat < 8 := b.isLt
  simp [taskMask_eq_twoPow, BitVec.getLsbD_twoPow, hb, eq_comm]

/-- Setting a task's flag leaves the other flags as they are (43_scheduler.md R250). -/
theorem getLsbD_setFlags (flags : Byte) (b : BitVec 3) (k : Nat) :
    (setFlags flags (taskMask b)).getLsbD k = (decide (k = b.toNat) || flags.getLsbD k) := by
  rw [setFlags, BitVec.getLsbD_or, getLsbD_taskMask, Bool.or_comm]

/-- Clearing a task's flag leaves the other flags as they are (43_scheduler.md R251). -/
theorem getLsbD_clearFlags (flags : Byte) (b : BitVec 3) {k : Nat} (hk : k < 8) :
    (clearFlags flags (taskMask b)).getLsbD k = (!decide (k = b.toNat) && flags.getLsbD k) := by
  rw [clearFlags, BitVec.getLsbD_and, BitVec.getLsbD_not, getLsbD_taskMask, decide_eq_true hk, Bool.true_and,
    Bool.and_comm]

/-- Flags that are already set absorb a second request (43_scheduler.md R253). -/
@[simp] theorem setFlags_setFlags (flags m : Byte) : setFlags (setFlags flags m) m = setFlags flags m := by
  rw [setFlags, setFlags, BitVec.or_assoc, BitVec.or_self]

/-! ### The highest pending task (43_scheduler.md R252) -/

/-- In a descending list the first hit is the highest one. -/
theorem eq_false_of_find?_of_lt {l : List Nat} {p : Nat → Bool} {b k : Nat} (hl : l.Pairwise (· > ·))
    (h : l.find? p = some b) (hk : k ∈ l) (hbk : b < k) : p k = false := by
  obtain ⟨-, before, after, rfl, hmiss⟩ := List.find?_eq_some_iff_append.mp h
  obtain ⟨-, hrest, -⟩ := List.pairwise_append.mp hl
  have hbefore : k ∈ before := by
    rcases List.mem_append.mp hk with hin | hin
    · exact hin
    · rcases List.mem_cons.mp hin with rfl | hafter
      · exact absurd hbk (lt_irrefl k)
      · exact absurd hbk (List.rel_of_pairwise_cons hrest hafter).not_gt
  simpa using hmiss k hbefore

/-- The bits that SEL scans. -/
theorem mem_scannedBits_iff {k : Nat} : k ∈ [7, 6, 5, 4, 3, 2, 1] ↔ 1 ≤ k ∧ k ≤ 7 := by
  simp only [List.mem_cons, List.not_mem_nil, or_false]
  omega

/-- The identifier SEL returns: that of the highest pending task, or IDLE where no task is pending. -/
theorem highestPending_cases (flags : Byte) :
    (∃ b, 1 ≤ b ∧ b ≤ 7 ∧ flags.getLsbD b = true ∧ (∀ k, b < k → k ≤ 7 → flags.getLsbD k = false) ∧
        highestPending flags = BitVec.twoPow 8 b) ∨
      ((∀ k, 1 ≤ k → k ≤ 7 → flags.getLsbD k = false) ∧ highestPending flags = 0x01) := by
  unfold highestPending
  split
  next b h =>
    obtain ⟨hone, hseven⟩ := mem_scannedBits_iff.mp (List.mem_of_find?_eq_some h)
    have hhighest : ∀ k, b < k → k ≤ 7 → flags.getLsbD k = false := fun k hbk hk =>
      eq_false_of_find?_of_lt (by decide) h (mem_scannedBits_iff.mpr ⟨hone.trans hbk.le, hk⟩) hbk
    exact .inl ⟨b, hone, hseven, List.find?_some h, hhighest, rfl⟩
  next h =>
    have hnone := List.find?_eq_none.mp h
    have hclear : ∀ k, 1 ≤ k → k ≤ 7 → flags.getLsbD k = false := fun k hone hseven =>
      Bool.eq_false_of_not_eq_true (hnone k (mem_scannedBits_iff.mpr ⟨hone, hseven⟩))
    exact .inr ⟨hclear, rfl⟩

/-! ### The three operations of a state without a fault -/

section SchedulerOps
variable {s : State} (hf : s.fault = 0)
include hf

theorem exec_req (b : BitVec 3) : exec (.req b) s = .next { s with flags := setFlags s.flags (taskMask b) } :=
  whenEnabled_effect hf rfl

theorem exec_clr (b : BitVec 3) : exec (.clr b) s = .next { s with flags := clearFlags s.flags (taskMask b) } :=
  whenEnabled_effect hf rfl

theorem exec_sel : exec .sel s = .next { s with rdata := highestPending s.flags } :=
  whenEnabled_effect hf rfl

/-- A request of a task that is already pending changes nothing (43_scheduler.md R253). -/
theorem exec_req_again (b : BitVec 3) :
    exec (.req b) { s with flags := setFlags s.flags (taskMask b) } =
      .next { s with flags := setFlags s.flags (taskMask b) } := by
  have hagain := exec_req (s := { s with flags := setFlags s.flags (taskMask b) }) hf b
  rwa [setFlags_setFlags] at hagain

end SchedulerOps

/-- Settles O48: `setFlags` sets one bit, and a second time it changes nothing. -/
theorem reqSetsOneFlag : Obligations.ReqSetsOneFlag := by
  unfold Obligations.ReqSetsOneFlag
  intro s b hf
  exact ⟨_, exec_req hf b, fun k _ => getLsbD_setFlags s.flags b k, exec_req_again hf b⟩

/-- Settles O49: `clearFlags` clears one bit. -/
theorem clrClearsOneFlag : Obligations.ClrClearsOneFlag := by
  unfold Obligations.ClrClearsOneFlag
  intro s b hf
  exact ⟨_, exec_clr hf b, fun _ hk => getLsbD_clearFlags s.flags b hk⟩

/-- Settles O50: what SEL latches is `highestPending` of the flags, by its two cases. -/
theorem selReturnsTheHighestPending : Obligations.SelReturnsTheHighestPending := by
  unfold Obligations.SelReturnsTheHighestPending
  intro s hf
  exact ⟨_, exec_sel hf, highestPending_cases s.flags⟩

end Sys2Proof.Machine

namespace Sys2Proof.Machine

/-! ## The host operations (44_host_ops.md R260 to R269) -/

/-! ### Writing a slot (44_host_ops.md R260) -/

/-- A write with an index of the slot, cell by cell: `Cells.write` takes an index above 5 to no cell of the data. -/
theorem slotWrite_eq (m : Slot) {i : Nat} (v : Byte) (hi : i ≤ 7) :
    slotWrite m i v =
      some ⟨m.data.write i v, if i = 6 then v else m.size, if i = 7 then v else m.pre⟩ := by
  have hcases : i ≤ 5 ∨ i = 6 ∨ i = 7 := by omega
  obtain hdata | rfl | rfl := hcases
  · have hsize : i ≠ 6 := by omega
    have hpre : i ≠ 7 := by omega
    rw [slotWrite, if_pos hdata, if_neg hsize, if_neg hpre]
  · rfl
  · rfl

/-- The data cells after a write: an index above 5 leaves them as they are (20_memory.md R90, R94). -/
theorem toList_write_eq_ite (a : Cells) (i : Nat) (v : Byte) :
    (a.write i v).toList = if i ≤ 5 then a.toList.set i v else a.toList := by
  rw [Cells.toList_write]
  split_ifs with hi
  · rfl
  · have hlen : a.toList.length ≤ i := Nat.lt_of_not_le hi
    exact List.set_eq_of_length_le hlen

@[simp] theorem slot_setSlot_same (s : State) (k : Bool) (m : Slot) : (s.setSlot k m).slot k = m := by
  cases k <;> rfl

@[simp] theorem slot_setSlot_not (s : State) (k : Bool) (m : Slot) : (s.setSlot k m).slot (!k) = s.slot (!k) := by
  cases k <;> rfl

theorem setSlot_writes (s : State) (k : Bool) (m : Slot) :
    s.setSlot k m = { s with slot0 := (s.setSlot k m).slot0, slot1 := (s.setSlot k m).slot1 } := by
  rw [setSlot_eq]

/-! ### Reading the exported buffer and the register map -/

/-- The cells of the exported buffer by index: `EXP_DATA[0..5]`, then `EXP_SIZE` (20_memory.md R90). -/
theorem exportRead_eq_getElem (e : ExportBuffer) (i : Nat) :
    exportRead e i = (e.data.toList ++ [e.size])[i]? := by
  obtain hdata | rfl | habove := lt_trichotomy i 6
  · rw [exportRead, if_neg hdata.ne, Cells.read_eq_getElem, List.getElem?_append_left hdata]
  · rfl
  · have hdata : e.data.toList.length ≤ i := habove.le
    have hall : (e.data.toList ++ [e.size]).length ≤ i := habove
    rw [exportRead, if_neg habove.ne', Cells.read_eq_getElem, List.getElem?_eq_none hdata,
      List.getElem?_eq_none hall]

/-- A 1-bit register as its zero-extended byte (00_scope.md R8). -/
theorem ite_eq_bitByte (b : Bool) : (if b then 1 else 0 : Byte) = bitByte b := by
  cases b <;> rfl

/-- `TX_LATCH` reads 1 for SHORT and 0 for LONG (30_encoding.md R123). -/
theorem ite_short_eq_bitByte_code (d : CellTiming) : (if d = .short then 1 else 0 : Byte) = bitByte d.code := by
  cases d <;> rfl

/-- The low byte of a 16-bit register (10_state.md R66). -/
theorem ofNat_mod_eq_extractLsb' (x : BitVec 16) : BitVec.ofNat 8 (x.toNat % 256) = x.extractLsb' 0 8 := by
  apply BitVec.eq_of_toNat_eq
  simp

/-- The high byte of a 16-bit register (10_state.md R66). -/
theorem ofNat_div_eq_extractLsb' (x : BitVec 16) : BitVec.ofNat 8 (x.toNat / 256) = x.extractLsb' 8 8 := by
  apply BitVec.eq_of_toNat_eq
  simp [Nat.shiftRight_eq_div_pow]

/-! ### The operations of a state without a fault -/

section HostOps
variable {s : State} (hf : s.fault = 0)
include hf

theorem exec_wrs {k : Bool} {i : BitVec 4} {v : Byte} {m : Slot} (hm : slotWrite (s.slot k) i.toNat v = some m) :
    exec (.wrs k i v) s = .next (s.setSlot k m) := by
  refine (whenEnabled_effect hf rfl).trans ?_
  rw [hm]

theorem exec_rdx {i : BitVec 4} {v : Byte} (hv : exportRead s.exported i.toNat = some v) :
    exec (.rdx i) s = .next { s with rdata := v } :=
  (whenEnabled_effect hf rfl).trans (congrArg (latchRead s) hv)

theorem exec_rdr {r v : Byte} (hv : s.readReg r = some v) : exec (.rdr r) s = .next { s with rdata := v } :=
  (whenEnabled_effect hf rfl).trans (congrArg (latchRead s) hv)

theorem exec_mode (y : Bool) : exec (.mode y) s = .next { s with mode := y } := whenEnabled_effect hf rfl

theorem exec_txen (y : Bool) : exec (.txen y) s = .next { s with txEn := y } := whenEnabled_effect hf rfl

theorem exec_rxen (y : Bool) : exec (.rxen y) s = .next { s with rxEn := y } := whenEnabled_effect hf rfl

theorem exec_cli : exec .cli s = .next { s with ie := false } := whenEnabled_effect hf rfl

theorem exec_sei : exec .sei s = .next { s with ie := true } := whenEnabled_effect hf rfl

theorem exec_reset : exec .reset s = .next (resetState s) := whenEnabled_effect hf rfl

end HostOps

/-- Settles O51: `slotWrite` cell by cell, and `setSlot` replaces one slot only. -/
theorem wrsWritesOneCell : Obligations.WrsWritesOneCell := by
  unfold Obligations.WrsWritesOneCell
  intro s k i v hf hi
  refine ⟨_, exec_wrs hf (slotWrite_eq (s.slot k) v hi), setSlot_writes _ _ _, slot_setSlot_not _ _ _, ?_⟩
  rw [slot_setSlot_same]
  exact ⟨toList_write_eq_ite _ _ _, rfl, rfl⟩

/-- Settles O53: with its single bits and its halves of 16-bit registers written as `readSingle` writes them, the list is
what `readReg` gives at each of its numbers. -/
theorem rdrReadsTheRegisterMap : Obligations.RdrReadsTheRegisterMap := by
  unfold Obligations.RdrReadsTheRegisterMap
  intro s hf p hp
  refine exec_rdr hf ?_
  revert p
  simp only [ite_eq_bitByte, ite_short_eq_bitByte_code, ofNat_mod_eq_extractLsb', ofNat_div_eq_extractLsb']
  exact List.map_inj_left.mp rfl

/-- Settles O1: the values are those of `resetState`, which takes the next draw and counts it. -/
theorem resetGivesEveryElementItsResetValue : Obligations.ResetGivesEveryElementItsResetValue := by
  unfold Obligations.ResetGivesEveryElementItsResetValue
  intro s hf
  exact ⟨Config.rxStartDraw s.draws, s.draws + 1, exec_reset hf⟩

/-- Settles O52: RDX latches the entry of the list of cells that its index names. -/
theorem rdxReadsTheExportedBuffer : Obligations.RdxReadsTheExportedBuffer := by
  unfold Obligations.RdxReadsTheExportedBuffer
  intro s i v hf hv
  exact exec_rdx hf ((exportRead_eq_getElem s.exported i.toNat).trans hv)

/-- Settles O55, one operation after the other. -/
theorem controlOperationsWriteTheirBit : Obligations.ControlOperationsWriteTheirBit := by
  unfold Obligations.ControlOperationsWriteTheirBit
  intro s hf
  exact ⟨exec_mode hf, exec_txen hf, exec_rxen hf, exec_cli hf, exec_sei hf⟩

end Sys2Proof.Machine

namespace Sys2Proof.Machine

/-! ## Raised faults (60_exceptions.md R301 to R305) -/

section Raises

variable {i : Instr} {s t : State}

/-- An operation answers a next state only in a state without a fault (60_exceptions.md R303). -/
theorem fault_eq_zero_of_exec_next (h : exec i s = .next t) : s.fault = 0 := by
  cases i with
  | _ => exact (whenEnabled_next h).1

/-- RESET answers a state without a fault (70_reset_and_hazards.md R340). -/
theorem ne_reset_of_fault_ne_zero (h : exec i s = .next t) (hne : t.fault ≠ 0) : i ≠ .reset := by
  rintro rfl
  cases whenEnabled_true_next h
  exact hne rfl

/-- `TxStep()` meets a bad size only where it reads the size: in SEPARATOR and at byte exhaustion (41_tx_encoder.md
R185). -/
theorem txStep_eq_badSize (h : txStep s = .badSize) :
    ¬ sizeOk (s.slot s.txSlot).size = true ∧
      (s.txState = .separator ∨ s.txState = .sendByte ∧ s.txMask >>> 1 = 0) := by
  cases hst : s.txState with
  | preamble => simp [txStep, hst, txPreamble] at h
  | extendPreamble => simp [txStep, hst, txExtendPreamble] at h
  | separator =>
    simp only [txStep, hst, txSeparator] at h
    split at h
    · split at h <;> cases h
    · exact ⟨‹¬ sizeOk _ = true›, .inl rfl⟩
  | sendByte =>
    simp only [txStep, hst, txSendByte] at h
    split at h
    · split at h
      · cases h
      · exact ⟨‹¬ sizeOk _ = true›, .inr ⟨rfl, ‹_›⟩⟩
    · cases h

/-- A TXT that writes `FAULT` is an enabled ADVANCE half-cell that met a bad size and was discarded (60_exceptions.md
R301, R304). -/
theorem execTxt_raises (h : execTxt s = .next t) (hne : t.fault ≠ s.fault) :
    s.txtEnabled = true ∧ s.txPhase = .advance ∧ txStep s = .badSize ∧ t = { s with fault := 0x02 } := by
  obtain ⟨-, ⟨-, rfl⟩ | ⟨-, -, rfl⟩ | ⟨he, hph, ha⟩⟩ := execTxt_next h
  · exact absurd rfl hne
  · exact absurd rfl hne
  · obtain ⟨d, u, hu, rfl⟩ | ⟨hbad, rfl⟩ := advanceHalf_next ha
    · rw [txStep_writes hu] at hne
      exact absurd rfl hne
    · exact ⟨he, hph, hbad, rfl⟩

/-- An operation that raises a fault writes nothing else (60_exceptions.md R304). -/
theorem exec_raises_writes_only_fault (h : exec i s = .next t) (hr : i ≠ .reset) (hne : t.fault ≠ s.fault) :
    t = { s with fault := t.fault } := by
  cases i with
  | txt =>
    obtain ⟨-, -, -, rfl⟩ := execTxt_raises h hne
    rfl
  | wrs k n v =>
    obtain ⟨m, -, rfl⟩ | ⟨-, rfl⟩ := execWrs_next h
    · cases k <;> exact absurd rfl hne
    · rfl
  | rdx n =>
    obtain ⟨v, -, rfl⟩ | ⟨-, rfl⟩ := latchRead_next (whenEnabled_true_next h)
    · exact absurd rfl hne
    · rfl
  | rdr r =>
    obtain ⟨v, -, rfl⟩ | ⟨-, rfl⟩ := latchRead_next (whenEnabled_true_next h)
    · exact absurd rfl hne
    · rfl
  | reset => exact absurd rfl hr
  | _ =>
    rw [exec_writes h] at hne
    exact absurd rfl hne

/-- A state with `FAULT` not 0 that an operation answers is the one before it with `FAULT` written. -/
theorem exec_faulting_writes_only_fault (h : exec i s = .next t) (hne : t.fault ≠ 0) :
    t = { s with fault := t.fault } :=
  exec_raises_writes_only_fault h (ne_reset_of_fault_ne_zero h hne) (by rwa [fault_eq_zero_of_exec_next h])

end Raises

/-- Settles O18: a delivery executes its operation, or raises `ILLEGAL_OP` for a word that decode rejects. -/
theorem faultingStepWritesOnlyFault : Obligations.FaultingStepWritesOnlyFault := by
  unfold Obligations.FaultingStepWritesOnlyFault
  refine ⟨fun i s t => exec_faulting_writes_only_fault, fun d s t h hne => ?_⟩
  obtain ⟨i, -, he⟩ | ⟨-, -, rfl⟩ := deliver_next h
  · exact exec_faulting_writes_only_fault he hne
  · rfl

/-- Settles O19: of the two writers of `FAULT` only TXT is well-formed, and its fault is a bad size that `TxStep()` met. -/
theorem onlyTxtRaisesAndOnlyForABadSize : Obligations.OnlyTxtRaisesAndOnlyForABadSize := by
  unfold Obligations.OnlyTxtRaisesAndOnlyForABadSize
  intro i s t hwf h hne
  have hraised : t.fault ≠ s.fault := by rwa [fault_eq_zero_of_exec_next h]
  obtain ⟨rfl, hcode⟩ | ⟨hill, -⟩ := writer_of_fault_ne h (ne_reset_of_fault_ne_zero h hne) hraised
  · obtain ⟨he, hph, hbad, -⟩ := execTxt_raises h hraised
    obtain ⟨hie, htx⟩ := Bool.and_eq_true_iff.mp he
    obtain ⟨hsize, hst⟩ := txStep_eq_badSize hbad
    exact ⟨hcode, rfl, hie, htx, hph, fun hok => hsize ((sizeOk_iff _).mpr hok), hst⟩
  · exact absurd hwf hill

/-- Settles O10: `deliver` gives a rejected word no other outcome and looks at no enable. -/
theorem rejectedWordRaisesIllegalOp : Obligations.RejectedWordRaisesIllegalOp := by
  unfold Obligations.RejectedWordRaisesIllegalOp
  intro s d why hf h
  exact deliver_of_decode_illegal hf h

/-! ## The invariant after a reset (70_reset_and_hazards.md R340, R341) -/

theorem resetState_txInv {s : State} (h : 1 ≤ s.cfg.preambleBits.toNat) : (resetState s).TxInv where
  byteIdx := Nat.zero_le _
  preCnt _ hzero := by
    rw [resetState_txPreCnt] at hzero
    simp [hzero] at h
  extCnt hst := by cases hst
  extImpl hst := by cases hst
  mask := by simp
  maskSending hst := by cases hst

theorem resetState_rxInv (s : State) : (resetState s).RxInv where
  ones := Nat.zero_le _
  onesOutside _ := rfl
  bitCnt := Nat.zero_le _
  byteCnt := Nat.zero_le _
  scratchFresh _ := rfl
  scratchRest _ := rfl

/-- RESET of a legal configuration establishes the invariant, whatever state it starts from. -/
theorem resetState_inv {s : State} (h : legalConfig s.cfg = true) : (resetState s).Inv where
  config := h
  tx := resetState_txInv (legalConfig_iff.mp h).1
  rx := resetState_rxInv s
  exported := .inl rfl
  fault := .inl rfl

theorem legalConfig_standard : legalConfig Params.standard = true := by decide

/-- The launch state is what `ResetState()` makes of one that has taken no draw yet (70_reset_and_hazards.md R341). -/
theorem reset_eq_resetState : State.reset = resetState { State.reset with draws := 0 } := rfl

/-- Settles O3: the launch state is a reset state of the default configuration, which is legal. -/
theorem launchStateMeetsTheInvariant : Obligations.LaunchStateMeetsTheInvariant := by
  unfold Obligations.LaunchStateMeetsTheInvariant
  rw [reset_eq_resetState]
  exact resetState_inv legalConfig_standard

end Sys2Proof.Machine

namespace Sys2Proof.Machine

/-! ## The launch state (70_reset_and_hazards.md R340, R341) -/

/-- After a reset `MODE` is the only bit of STATUS that is set (10_state.md R38). -/
@[simp] theorem resetState_status (s : State) : (resetState s).status = 0x08 := by
  simp [State.status, TxPhase.code]

/-- RESET of a state that differs from the launch state in its count of draws alone gives the launch state. -/
theorem exec_reset_eq_launch : exec .reset { State.reset with draws := 0 } = .next State.reset :=
  (exec_reset rfl).trans (congrArg _ reset_eq_resetState.symm)

/-- Settles O2: the launch state is `resetState` of another state, so RESET produces it and its registers have the values
of `resetState`, read at the default parameters; the traces are those of the state before, which are empty. -/
theorem launchStateIsAResetState : Obligations.LaunchStateIsAResetState := by
  unfold Obligations.LaunchStateIsAResetState
  refine ⟨⟨_, exec_reset_eq_launch⟩, ?_⟩
  rw [reset_eq_resetState]
  exact ⟨resetState_txTrace _, resetState_cleanTrace _, resetState_ie _, resetState_txEn _, resetState_rxEn _,
    resetState_txState _, resetState_rxState _, resetState_txPreCnt _, resetState_slot1 _, resetState_status _⟩

end Sys2Proof.Machine

namespace Sys2Proof.Machine

/-! ## One TXT of the encoder in SEPARATOR and SENDBYTE (41_tx_encoder.md R181 to R185) -/

section TxtBytes

variable {s u : State} {d : CellTiming}

/-- SENDBYTE before the last bit of the byte only moves the cursor (41_tx_encoder.md R182). -/
theorem txStep_sendByte_more (hst : s.txState = .sendByte) (hmore : s.txMask >>> 1 ≠ 0) :
    txStep s = .sends (.ofBit (s.txCurByte &&& s.txMask != 0)) { s with txMask := s.txMask >>> 1 } := by
  have hne : ¬ s.txMask >>> 1 = 0 := hmore
  simp only [txStep, hst, txSendByte, if_neg hne]

/-- The last bit of the byte ends it (41_tx_encoder.md R182 to R184). -/
theorem txStep_sendByte_last (hst : s.txState = .sendByte) (hlast : s.txMask >>> 1 = 0)
    (hok : sizeOk (s.slot s.txSlot).size = true) :
    txStep s = .sends (.ofBit (s.txCurByte &&& s.txMask != 0)) (txByteSent { s with txMask := 0 }) := by
  simp only [txStep, hst, txSendByte, hlast, if_true]
  exact if_pos hok

/-- SEPARATOR and the last bit of a byte read the size, and a bad one stops them (41_tx_encoder.md R185). -/
theorem txStep_badSize (hbad : ¬ sizeOk (s.slot s.txSlot).size = true)
    (hst : s.txState = .separator ∨ s.txState = .sendByte ∧ s.txMask >>> 1 = 0) : txStep s = .badSize := by
  rcases hst with hst | ⟨hst, hlast⟩
  · simp only [txStep, hst, txSeparator, if_neg hbad]
  · simp only [txStep, hst, txSendByte, hlast, if_true]
    exact if_neg hbad

/-- SEPARATOR reads a byte of the message and puts the cursor at its top bit (41_tx_encoder.md R181). -/
theorem txStep_separator_sends (hst : s.txState = .separator) (h : txStep s = .sends d u) :
    ∃ v, u = { s with txCurByte := v, txMask := BitVec.twoPow 8 7, txState := .sendByte } := by
  by_cases hok : sizeOk (s.slot s.txSlot).size = true
  · cases hv : (s.slot s.txSlot).data.read s.txByteIdx.toNat with
    | some v =>
      rw [txStep_separator hst hok hv] at h
      cases h
      exact ⟨v, rfl⟩
    | none => simp [txStep, hst, txSeparator, hok, hv] at h
  · rw [txStep_badSize hok (.inl hst)] at h
    cases h

/-- SENDBYTE moves the cursor, or ends a byte of a message of legal size (41_tx_encoder.md R182 to R184). -/
theorem txStep_sendByte_sends (hst : s.txState = .sendByte) (h : txStep s = .sends d u) :
    s.txMask >>> 1 ≠ 0 ∧ u = { s with txMask := s.txMask >>> 1 } ∨
      sizeOk (s.slot s.txSlot).size = true ∧ u = txByteSent { s with txMask := 0 } := by
  by_cases hlast : s.txMask >>> 1 = 0
  · by_cases hok : sizeOk (s.slot s.txSlot).size = true
    · rw [txStep_sendByte_last hst hlast hok] at h
      cases h
      exact .inr ⟨hok, rfl⟩
    · rw [txStep_badSize hok (.inr ⟨hst, hlast⟩)] at h
      cases h
  · rw [txStep_sendByte_more hst hlast] at h
    cases h
    exact .inl ⟨hlast, rfl⟩

end TxtBytes

end Sys2Proof.Machine

namespace Sys2Proof.Machine

/-! ## Every step keeps the invariant -/

/-! ### The encoder's part -/

/-- The encoder's part reads six fields. -/
theorem State.TxInv.of_fields_eq {s t : State} (h : s.TxInv)
    (heq : (t.cfg, t.txState, t.txPreCnt, t.txExtCnt, t.txByteIdx, t.txMask) =
      (s.cfg, s.txState, s.txPreCnt, s.txExtCnt, s.txByteIdx, s.txMask)) : t.TxInv := by
  simp only [Prod.mk.injEq] at heq
  obtain ⟨hcfg, hst, hpre, hext, hidx, hmask⟩ := heq
  exact
    { byteIdx := hidx ▸ h.byteIdx
      preCnt := by rw [hst, hpre]; exact h.preCnt
      extCnt := by rw [hst, hext]; exact h.extCnt
      extImpl := by rw [hst, hcfg]; exact h.extImpl
      mask := hmask ▸ h.mask
      maskSending := by rw [hst, hmask]; exact h.maskSending }

/-- The values of the cursor: one bit of a byte, or none (10_state.md R45). -/
abbrev IsCursor (m : Byte) : Prop :=
  m ∈ [0x00#8, 0x01#8, 0x02#8, 0x04#8, 0x08#8, 0x10#8, 0x20#8, 0x40#8, 0x80#8]

/-- The cursor moves to the next bit, or leaves the byte. -/
theorem isCursor_shiftRight {m : Byte} (h : IsCursor m) : IsCursor (m >>> 1) := by
  revert m
  decide

theorem isCursor_zero : IsCursor 0 := by decide

theorem isCursor_top : IsCursor (BitVec.twoPow 8 7) := by decide

section TxInvSteps

variable {s u : State} {d : CellTiming}

/-- SEPARATOR asks only for the index and the cursor. -/
theorem txInv_of_separator (hst : s.txState = .separator) (hidx : s.txByteIdx.toNat ≤ 5) (hmask : IsCursor s.txMask) :
    s.TxInv where
  byteIdx := hidx
  preCnt h := nomatch hst.symm.trans h
  extCnt h := nomatch hst.symm.trans h
  extImpl h := nomatch hst.symm.trans h
  mask := hmask
  maskSending h := nomatch hst.symm.trans h

/-- PREAMBLE asks for a bit still to send besides. -/
theorem txInv_of_preamble (hst : s.txState = .preamble) (hcnt : s.txPreCnt ≠ 0) (hidx : s.txByteIdx.toNat ≤ 5)
    (hmask : IsCursor s.txMask) : s.TxInv where
  byteIdx := hidx
  preCnt _ := hcnt
  extCnt h := nomatch hst.symm.trans h
  extImpl h := nomatch hst.symm.trans h
  mask := hmask
  maskSending h := nomatch hst.symm.trans h

/-- EXTENDPREAMBLE asks for a bit still to send and to be implemented. -/
theorem txInv_of_extendPreamble (hst : s.txState = .extendPreamble) (hcnt : s.txExtCnt ≠ 0)
    (himpl : s.cfg.extPreambleImpl = true) (hidx : s.txByteIdx.toNat ≤ 5) (hmask : IsCursor s.txMask) : s.TxInv where
  byteIdx := hidx
  preCnt h := nomatch hst.symm.trans h
  extCnt _ := hcnt
  extImpl _ := himpl
  mask := hmask
  maskSending h := nomatch hst.symm.trans h

/-- SENDBYTE asks for a cursor on a bit. -/
theorem txInv_of_sendByte (hst : s.txState = .sendByte) (hidx : s.txByteIdx.toNat ≤ 5) (hmask : IsCursor s.txMask)
    (hne : s.txMask ≠ 0) : s.TxInv where
  byteIdx := hidx
  preCnt h := nomatch hst.symm.trans h
  extCnt h := nomatch hst.symm.trans h
  extImpl h := nomatch hst.symm.trans h
  mask := hmask
  maskSending _ := hne

/-- A ready source leads to SEPARATOR, or to EXTENDPREAMBLE with the bits that `PRE` asks for beyond the preamble
(41_tx_encoder.md R178). -/
theorem txReady_txInv (hmask : IsCursor s.txMask) : (txReady s).TxInv := by
  rw [txReady_eq]
  by_cases hlonger : s.cfg.extPreambleImpl = true ∧ s.cfg.preambleBits.toNat < s.slot0.pre.toNat
  · simp only [if_pos hlonger]
    have hextra : s.slot0.pre - s.cfg.preambleBits ≠ 0 := by
      intro hzero
      rw [sub_eq_zero.mp hzero] at hlonger
      exact lt_irrefl _ hlonger.2
    exact txInv_of_extendPreamble rfl hextra hlonger.1 (Nat.zero_le 5) hmask
  · simp only [if_neg hlonger]
    exact txInv_of_separator rfl (Nat.zero_le 5) hmask

/-- An underrun asks again after one more bit, or sends the idle slot (41_tx_encoder.md R177, R179). -/
theorem txUnderrun_txInv (hst : s.txState = .preamble) (hidx : s.txByteIdx.toNat ≤ 5) (hmask : IsCursor s.txMask) :
    (txUnderrun s).TxInv := by
  cases hpolicy : s.cfg.underrunPolicy with
  | stretch =>
    rw [txUnderrun_stretch hpolicy]
    have hone : (1 : Byte) ≠ 0 := by decide
    exact txInv_of_preamble hst hone hidx hmask
  | idleSubst =>
    rw [txUnderrun_idleSubst hpolicy]
    exact txInv_of_separator rfl (Nat.zero_le 5) hmask

/-- Whatever the message source answers, the query leaves PREAMBLE or one more bit of it (41_tx_encoder.md R175). -/
theorem txQuery_txInv (hst : s.txState = .preamble) (hidx : s.txByteIdx.toNat ≤ 5) (hmask : IsCursor s.txMask) :
    (txQuery s).TxInv := by
  simp only [txQuery, takeAnswer_snd, acceptAnswer_eq]
  split
  · exact txReady_txInv hmask
  · exact txUnderrun_txInv hst hidx hmask

/-- The end of a byte keeps the index below the largest size (41_tx_encoder.md R183, R184). -/
theorem txByteSent_txInv (hpre : s.cfg.preambleBits ≠ 0) (hok : sizeOk (s.slot s.txSlot).size = true)
    (hidx : s.txByteIdx.toNat ≤ 5) (hmask : IsCursor s.txMask) : (txByteSent s).TxInv := by
  obtain ⟨-, hle⟩ := (sizeOk_iff _).mp hok
  rw [txByteSent_eq]
  by_cases hmore : s.txByteIdx.toNat + 1 < (s.slot s.txSlot).size.toNat
  · simp only [if_pos hmore]
    have hnext : (s.txByteIdx + 1).toNat ≤ 5 := by
      rw [BitVec.toNat_add]
      exact (Nat.mod_le _ _).trans (show s.txByteIdx.toNat + 1 ≤ 5 by omega)
    exact txInv_of_separator rfl hnext hmask
  · simp only [if_neg hmore]
    exact txInv_of_preamble rfl hpre hidx hmask

theorem txStep_txInv (h : s.TxInv) (hpre : s.cfg.preambleBits ≠ 0) (hsends : txStep s = .sends d u) : u.TxInv := by
  cases hst : s.txState with
  | preamble =>
    by_cases hcnt : s.txPreCnt = 1
    · rw [txStep_preamble_last hst hcnt rfl] at hsends
      cases hsends
      exact txQuery_txInv hst h.byteIdx h.mask
    · rw [txStep_preamble_counts hst hcnt] at hsends
      cases hsends
      exact txInv_of_preamble hst (sub_ne_zero.mpr hcnt) h.byteIdx h.mask
  | extendPreamble =>
    rw [txStep_extendPreamble hst] at hsends
    cases hsends
    by_cases hcnt : s.txExtCnt = 1
    · exact txInv_of_separator (if_pos hcnt) h.byteIdx h.mask
    · exact txInv_of_extendPreamble (if_neg hcnt) (sub_ne_zero.mpr hcnt) (h.extImpl hst) h.byteIdx h.mask
  | separator =>
    obtain ⟨v, rfl⟩ := txStep_separator_sends hst hsends
    have htop : BitVec.twoPow 8 7 ≠ 0 := by decide
    exact txInv_of_sendByte rfl h.byteIdx isCursor_top htop
  | sendByte =>
    obtain ⟨hmore, rfl⟩ | ⟨hok, rfl⟩ := txStep_sendByte_sends hst hsends
    · exact txInv_of_sendByte hst h.byteIdx (isCursor_shiftRight h.mask) hmore
    · exact txByteSent_txInv hpre hok h.byteIdx isCursor_zero

theorem execTxt_txInv {t : State} (h : s.TxInv) (hpre : s.cfg.preambleBits ≠ 0) (ht : execTxt s = .next t) :
    t.TxInv := by
  obtain ⟨-, ⟨-, rfl⟩ | ⟨-, -, rfl⟩ | ⟨-, -, ha⟩⟩ := execTxt_next ht
  · exact h
  · exact h.of_fields_eq rfl
  · obtain ⟨d, u, hsends, rfl⟩ | ⟨-, rfl⟩ := advanceHalf_next ha
    · exact (txStep_txInv h hpre hsends).of_fields_eq rfl
    · exact h.of_fields_eq rfl

end TxInvSteps

/-! ### The decoder's part -/

/-- The decoder's part reads five fields. -/
theorem State.RxInv.of_fields_eq {s t : State} (h : s.RxInv)
    (heq : (t.rxState, t.rxOnes, t.rxBitCnt, t.rxByteCnt, t.rxScratch) =
      (s.rxState, s.rxOnes, s.rxBitCnt, s.rxByteCnt, s.rxScratch)) : t.RxInv := by
  simp only [Prod.mk.injEq] at heq
  obtain ⟨hst, hones, hbit, hbyte, hscratch⟩ := heq
  exact
    { ones := hones ▸ h.ones
      onesOutside := by rw [hst, hones]; exact h.onesOutside
      bitCnt := hbit ▸ h.bitCnt
      byteCnt := hbyte ▸ h.byteCnt
      scratchFresh := by rw [hst, hscratch]; exact h.scratchFresh
      scratchRest := by rw [hst, hscratch, hbyte]; exact h.scratchRest }

section RxInvSteps

variable {s : State}

/-- The cells of the scratch buffer above the bytes received are 0 (42_rx_decoder.md R224). -/
def State.ScratchRest (s : State) : Prop := (s.rxScratch.toList.drop s.rxByteCnt.toNat).all (· == 0) = true

/-- PREAMBLE asks only for the ranges of its counters. -/
theorem rxInv_of_preamble (hst : s.rxState = .preamble) (hones : s.rxOnes.toNat ≤ 11) (hbit : s.rxBitCnt.toNat ≤ 7)
    (hbyte : s.rxByteCnt.toNat ≤ 7) : s.RxInv where
  ones := hones
  onesOutside h := absurd hst h
  bitCnt := hbit
  byteCnt := hbyte
  scratchFresh h := nomatch hst.symm.trans h
  scratchRest h := h.elim (nomatch hst.symm.trans ·) (nomatch hst.symm.trans ·)

/-- DATA and END_BIT ask for no ones counted and 0 in the scratch cells above the bytes received. -/
theorem rxInv_of_byte (hst : s.rxState = .data ∨ s.rxState = .endBit) (hones : s.rxOnes = 0)
    (hbit : s.rxBitCnt.toNat ≤ 7) (hbyte : s.rxByteCnt.toNat ≤ 7) (hrest : s.ScratchRest) : s.RxInv where
  ones := by rw [hones]; decide
  onesOutside _ := hones
  bitCnt := hbit
  byteCnt := hbyte
  scratchFresh h := hst.elim (nomatch ·.symm.trans h) (nomatch ·.symm.trans h)
  scratchRest _ := hrest

/-- Storing a byte leaves the cells above it as they are (42_rx_decoder.md R221). -/
theorem rxByteDone_scratchRest (h : s.ScratchRest) : (rxByteDone s).ScratchRest := by
  unfold State.ScratchRest at h ⊢
  rw [rxByteDone_rxScratch_toList, rxByteDone_rxByteCnt_toNat]
  rw [List.all_eq_true] at h ⊢
  split_ifs with hlt
  · have hcnt : min (s.rxByteCnt.toNat + 1) 7 = s.rxByteCnt.toNat + 1 := by omega
    rw [hcnt, List.drop_set_of_lt (by omega)]
    exact fun x hx => h x (List.drop_subset_drop_left _ (by omega) hx)
  · have hcnt : min (s.rxByteCnt.toNat + 1) 7 = 7 := by omega
    rw [hcnt]
    nofun

theorem rxByteDone_rxInv (hones : s.rxOnes = 0) (hrest : s.ScratchRest) : (rxByteDone s).RxInv := by
  refine rxInv_of_byte (.inr rfl) hones (Nat.zero_le 7) ?_ (rxByteDone_scratchRest hrest)
  rw [rxByteDone_rxByteCnt_toNat]
  omega

theorem rxStep_rxInv (h : s.RxInv) (b : Bool) : (rxStep b s).RxInv := by
  cases hst : s.rxState with
  | preamble =>
    cases b with
    | false =>
      rw [rxStep_preamble_zero hst]
      exact rxInv_of_preamble hst (Nat.zero_le 11) h.bitCnt h.byteCnt
    | true =>
      by_cases hones : s.rxOnes.toNat ≤ 10
      · rw [rxStep_preamble_counts hst hones]
        have hsucc : (s.rxOnes + 1).toNat ≤ 11 := by
          rw [BitVec.toNat_add]
          exact (Nat.mod_le _ _).trans (Nat.succ_le_succ hones)
        exact rxInv_of_preamble hst hsucc h.bitCnt h.byteCnt
      · rw [rxStep_preamble_last hst (Nat.lt_of_not_le hones)]
        exact ⟨Nat.zero_le 11, fun _ => rfl, h.bitCnt, h.byteCnt, fun _ => rfl, by simp⟩
  | startBit =>
    rw [rxStep_startBit hst]
    have hones := h.onesOutside (by simp [hst])
    cases b with
    | false =>
      have hrest : State.ScratchRest { s with rxBitCnt := 0, rxByteCnt := 0, rxState := .data } := by
        simp [State.ScratchRest, h.scratchFresh hst, Cells.zero, Cells.toList]
      exact rxInv_of_byte (.inl rfl) hones (Nat.zero_le 7) (Nat.zero_le 7) hrest
    | true => exact h
  | data =>
    have hones := h.onesOutside (by simp [hst])
    have hrest : s.ScratchRest := h.scratchRest (.inl hst)
    by_cases hcnt : s.rxBitCnt = 7
    · rw [rxStep_data_eighth hst hcnt]
      exact rxByteDone_rxInv hones hrest
    · rw [rxStep_data_shifts hst hcnt]
      have hsucc : (s.rxBitCnt + 1).toNat ≤ 7 := by
        have := h.bitCnt
        have : s.rxBitCnt.toNat ≠ 7 := fun heq => hcnt (BitVec.eq_of_toNat_eq heq)
        rw [BitVec.toNat_add]
        exact (Nat.mod_le _ _).trans (show s.rxBitCnt.toNat + 1 ≤ 7 by omega)
      exact rxInv_of_byte (.inl hst) hones hsucc h.byteCnt hrest
  | endBit =>
    have hones := h.onesOutside (by simp [hst])
    cases b with
    | false =>
      rw [rxStep_endBit_zero hst]
      exact rxInv_of_byte (.inl rfl) hones h.bitCnt h.byteCnt (h.scratchRest (.inr hst))
    | true =>
      cases hv : validPacket s.rxScratch s.rxByteCnt with
      | true =>
        rw [rxStep_endBit_valid hst hv]
        exact rxInv_of_preamble rfl h.ones h.bitCnt h.byteCnt
      | false =>
        rw [rxStep_endBit_invalid hst hv]
        exact rxInv_of_preamble rfl h.ones h.bitCnt h.byteCnt

theorem edgeStep_rxInv (h : s.RxInv) (level : Bool) (time : Ticks) : (edgeStep level time s).RxInv := by
  cases level with
  | true => exact h.of_fields_eq rfl
  | false =>
    rw [edgeStep_falling_withOutput]
    exact (rxStep_rxInv h _).of_fields_eq rfl

/-- A falling edge leaves the exported buffer, or puts there a valid packet with 0 above it (42_rx_decoder.md R224,
R226). -/
theorem edgeStep_exported_valid (h : s.RxInv) (hexp : s.exported.Valid) (level : Bool) (time : Ticks) :
    (edgeStep level time s).exported.Valid := by
  cases level with
  | true => exact hexp
  | false =>
    rw [edgeStep_falling_withOutput]
    obtain ⟨he, -⟩ | ⟨hst, -, hv, he, -⟩ := rxStep_exported (classify s.cfg (time - s.rxStart)) s
    · exact he ▸ hexp
    · exact he ▸ .inr ⟨hv, h.scratchRest (.inr hst)⟩

end RxInvSteps

/-! ### The block -/

section InvSteps

variable {i : Instr} {s t : State}

/-- No operation changes the parameters (10_state.md R67). -/
theorem exec_cfg (h : exec i s = .next t) : t.cfg = s.cfg := by
  cases i with
  | reset =>
    cases whenEnabled_true_next h
    rfl
  | _ =>
    rw [exec_writes h]
    rfl

theorem preambleBits_ne_zero (h : legalConfig s.cfg = true) : s.cfg.preambleBits ≠ 0 := by
  intro hzero
  obtain ⟨hpre, -⟩ := legalConfig_iff.mp h
  simp [hzero] at hpre

theorem exec_txInv (hs : s.Inv) (h : exec i s = .next t) : t.TxInv := by
  cases i with
  | txt => exact execTxt_txInv hs.tx (preambleBits_ne_zero hs.config) h
  | reset =>
    cases whenEnabled_true_next h
    exact (resetState_inv hs.config).tx
  | _ =>
    rw [exec_writes h]
    exact hs.tx.of_fields_eq rfl

theorem exec_rxInv (hs : s.Inv) (h : exec i s = .next t) : t.RxInv := by
  cases i with
  | rxe level time =>
    obtain rfl | rfl := execRxe_next h
    · exact hs.rx
    · exact edgeStep_rxInv hs.rx level time
  | reset =>
    cases whenEnabled_true_next h
    exact (resetState_inv hs.config).rx
  | _ =>
    rw [exec_writes h]
    exact hs.rx.of_fields_eq rfl

theorem exec_exported_valid (hs : s.Inv) (h : exec i s = .next t) : t.exported.Valid := by
  cases i with
  | rxe level time =>
    obtain rfl | rfl := execRxe_next h
    · exact hs.exported
    · exact edgeStep_exported_valid hs.rx hs.exported level time
  | reset =>
    cases whenEnabled_true_next h
    exact (resetState_inv hs.config).exported
  | _ =>
    rw [exec_writes h]
    exact hs.exported

theorem exec_fault_code (hs : s.Inv) (h : exec i s = .next t) : t.fault = 0x00 ∨ t.fault = 0x01 ∨ t.fault = 0x02 := by
  by_cases hne : t.fault = s.fault
  · exact hne ▸ hs.fault
  · by_cases hr : i = .reset
    · subst hr
      cases whenEnabled_true_next h
      exact .inl rfl
    · obtain ⟨-, htx⟩ | ⟨-, hill⟩ := writer_of_fault_ne h hr hne
      · exact .inr (.inr htx)
      · exact .inr (.inl hill)

theorem exec_keeps_inv (hs : s.Inv) (h : exec i s = .next t) : t.Inv where
  config := (exec_cfg h).symm ▸ hs.config
  tx := exec_txInv hs h
  rx := exec_rxInv hs h
  exported := exec_exported_valid hs h
  fault := exec_fault_code hs h

/-- The invariant does not read the words held. -/
theorem State.Inv.of_inbox (hs : s.Inv) (held : List Delivery) : State.Inv { s with inbox := held } :=
  ⟨hs.config, hs.tx.of_fields_eq rfl, hs.rx.of_fields_eq rfl, hs.exported, hs.fault⟩

theorem deliver_keeps_inv {d : Delivery} (hs : s.Inv) (h : deliver d s = .next t) : t.Inv := by
  obtain ⟨i, -, he⟩ | ⟨-, -, rfl⟩ := deliver_next h
  · exact exec_keeps_inv hs he
  · exact ⟨hs.config, hs.tx.of_fields_eq rfl, hs.rx.of_fields_eq rfl, hs.exported, .inr (.inl rfl)⟩

end InvSteps

/-- Settles O4: a step delivers one word, or leaves the state; a delivery executes an operation, which keeps each part
of the invariant, or raises `ILLEGAL_OP`. -/
theorem everyStepKeepsTheInvariant : Obligations.EveryStepKeepsTheInvariant := by
  unfold Obligations.EveryStepKeepsTheInvariant
  intro s t hs h
  obtain ⟨-, -, ⟨d, held, -, hd⟩ | ⟨-, rfl⟩⟩ := nextStep_next h
  · exact deliver_keeps_inv (hs.of_inbox held) hd
  · exact hs

end Sys2Proof.Machine

namespace Sys2Proof.Machine

/-! ## What an enabled TXT of ADVANCE phase answers in SEPARATOR and SENDBYTE (41_tx_encoder.md R181 to R185) -/

/-- The timing value of the bit under the cursor (41_tx_encoder.md R182). -/
theorem ofBit_bne_zero (m : Byte) : CellTiming.ofBit (m != 0) = if m ≠ 0 then .short else .long := by
  simp only [CellTiming.ofBit, bne_iff_ne]

/-- The half-cell of the bit under the cursor (40_bit_timing.md R160). -/
theorem timing_ofBit_bne_zero (p : Params) (m : Byte) :
    timing p (.ofBit (m != 0)) = if m ≠ 0 then p.halfShort else p.halfLong := by
  rw [ofBit_bne_zero, apply_ite (timing p)]
  rfl

theorem ofBit_code (d : CellTiming) : CellTiming.ofBit d.code = d := by
  cases d <;> rfl

theorem exec_txt_advance {s : State} (hs : s.TxReady) : exec .txt s = advanceHalf s := by
  rw [exec, execTxt, whenEnabled_effect hs.fault hs.txtEnabled, hs.phase]

/-- A bad size discards the whole half-cell (60_exceptions.md R304). -/
theorem exec_txt_badSize {s : State} (hs : s.TxReady) (h : txStep s = .badSize) :
    exec .txt s = .next { s with fault := 0x02 } := by
  refine (exec_txt_advance hs).trans ?_
  rw [advanceHalf, h]
  rfl

/-- Settles O20: `TxStep()` stops with the bad size where it reads the size. -/
theorem badSizeRaisesTxBadSize : Obligations.BadSizeRaisesTxBadSize := by
  unfold Obligations.BadSizeRaisesTxBadSize
  intro s hf hie htx hph hbad hst
  exact exec_txt_badSize ⟨hf, hie, htx, hph⟩ (txStep_badSize (fun hok => hbad ((sizeOk_iff _).mp hok)) hst)

/-- Settles O28: a "0" is sent and the byte at the index loaded. -/
theorem txtSeparator : Obligations.TxtSeparator := by
  unfold Obligations.TxtSeparator
  intro s v hf hie htx hph hst hlo hhi hv
  exact exec_txt_sends ⟨hf, hie, htx, hph⟩
    (txStep_separator hst ((sizeOk_iff _).mpr ⟨hlo, hhi⟩) ((Cells.read_eq_getElem _ _).trans hv))

/-- Settles O29: the bit under the cursor is sent and the cursor moves. -/
theorem txtSendsABit : Obligations.TxtSendsABit := by
  unfold Obligations.TxtSendsABit
  intro s hf hie htx hph hst hmore
  rw [← timing_ofBit_bne_zero, ← ofBit_bne_zero]
  exact exec_txt_sends ⟨hf, hie, htx, hph⟩ (txStep_sendByte_more hst hmore)

/-- Settles O30: the bit under the cursor is sent and `txByteSent` ends the byte. -/
theorem txtByteExhausted : Obligations.TxtByteExhausted := by
  unfold Obligations.TxtByteExhausted
  intro s hf hie htx hph hst hlast hlo hhi
  have hsends := exec_txt_sends ⟨hf, hie, htx, hph⟩
    (txStep_sendByte_last hst hlast ((sizeOk_iff _).mpr ⟨hlo, hhi⟩))
  rw [txByteSent_eq] at hsends
  rw [← timing_ofBit_bne_zero, ← ofBit_bne_zero]
  exact hsends

/-! ## What every TXT does -/

/-- Settles O31: the frame is that of TXT in `withWritesOf`. -/
theorem txtLeavesEverythingElse : Obligations.TxtLeavesEverythingElse := by
  unfold Obligations.TxtLeavesEverythingElse
  intro s t h
  exact execTxt_writes h

/-- An enabled TXT that answers a state without a fault is a HOLD half-cell or the ADVANCE half-cell of a bit. -/
theorem execTxt_completes {s t : State} (he : s.txtEnabled = true) (h : execTxt s = .next t) (hf : t.fault = 0) :
    s.txPhase = .hold ∧ t = holdHalf s ∨
      s.txPhase = .advance ∧ ∃ d u, txStep s = .sends d u ∧
        t = driveHalf false d { u with txLatch := d, txPhase := .hold } := by
  obtain ⟨-, ⟨hmasked, -⟩ | ⟨-, hph, rfl⟩ | ⟨-, hph, ha⟩⟩ := execTxt_next h
  · rw [he] at hmasked
    cases hmasked
  · exact .inl ⟨hph, rfl⟩
  · obtain ⟨d, u, hsends, rfl⟩ | ⟨-, rfl⟩ := advanceHalf_next ha
    · exact .inr ⟨hph, d, u, hsends, rfl⟩
    · cases hf

theorem State.txtEnabled_eq_true {s : State} (hie : s.ie = true) (htx : s.txEn = true) : s.txtEnabled = true := by
  rw [State.txtEnabled, hie, htx, Bool.and_self]

/-- Settles O32: each half-cell drives the pin once, and of the two only `TxStep()` could write the trace or the
parameters on the side. -/
theorem txtAppendsOneRecord : Obligations.TxtAppendsOneRecord := by
  unfold Obligations.TxtAppendsOneRecord
  intro s t hie htx h hf
  rw [← timing_eq_ite]
  obtain ⟨hph, rfl⟩ | ⟨hph, d, u, hsends, rfl⟩ := execTxt_completes (State.txtEnabled_eq_true hie htx) h hf
  · simp [hph]
  · have hcfg : u.cfg = s.cfg := by rw [txStep_writes hsends]
    have htrace : u.txTrace = s.txTrace := by rw [txStep_writes hsends]
    simp [hph, hcfg, htrace]

theorem runWords_cons_next {d : Delivery} {ds : List Delivery} {s t : State} (h : runWords (d :: ds) s = .next t) :
    ∃ u, deliver d s = .next u ∧ runWords ds u = .next t := by
  rw [runWords] at h
  cases hd : deliver d s with
  | next u =>
    rw [hd] at h
    exact ⟨u, rfl, h⟩
  | fault r => rw [hd] at h; cases h
  | refused r => rw [hd] at h; cases h

/-- A TXT that is followed by another one raised no fault (60_exceptions.md R303). -/
theorem runWords_timerTicks_two {s t : State} (h : runWords (timerTicks 2) s = .next t) :
    ∃ u, execTxt s = .next u ∧ s.fault = 0 ∧ u.fault = 0 := by
  obtain ⟨u, hfirst, hrest⟩ := runWords_cons_next h
  obtain ⟨v, hsecond, -⟩ := runWords_cons_next hrest
  rw [deliver_txt] at hfirst hsecond
  exact ⟨u, hfirst, (execTxt_next hfirst).1, (execTxt_next hsecond).1⟩

/-- Settles O33: the first TXT begins a bit, and `transmits_bit` says what the two send. -/
theorem bitIsTwoEqualHalfCells : Obligations.BitIsTwoEqualHalfCells := by
  unfold Obligations.BitIsTwoEqualHalfCells
  intro s t hie htx hph h
  obtain ⟨u, hfirst, hf, huf⟩ := runWords_timerTicks_two h
  obtain ⟨hhold, -⟩ | ⟨-, d, v, hsends, -⟩ := execTxt_completes (State.txtEnabled_eq_true hie htx) hfirst huf
  · exact nomatch hph.symm.trans hhold
  · rw [← ofBit_code d] at hsends
    have hbit := transmits_bit ⟨hf, hie, htx, hph⟩ hsends
    have ht : t = afterBit d.code v := by
      have heq := h.symm.trans hbit.run
      simpa using heq
    subst ht
    exact ⟨d.code, by simpa [bitsWaveform] using hbit.trace, hbit.ready.phase⟩

/-! ## One cycle of the encoder (30_encoding.md R122) -/

theorem Transmits.nil {s : State} (hs : s.TxReady) : Transmits [] s s where
  run := rfl
  trace := (List.append_nil _).symm
  cfg := rfl
  ready := hs

/-- In PREAMBLE with `n` bits to send before its last one, these are sent (41_tx_encoder.md R174). -/
theorem transmits_preamble {n : Nat} {s : State} (hs : s.TxReady) (hst : s.txState = .preamble)
    (hcnt : s.txPreCnt.toNat = n + 1) :
    ∃ t, Transmits (List.replicate n true) s t ∧
      t = { s with
        txPreCnt := 1, txLatch := t.txLatch, txPhase := t.txPhase, txPin := t.txPin, txTrace := t.txTrace } := by
  induction n generalizing s with
  | zero =>
    have hone : s.txPreCnt = 1 := BitVec.eq_of_toNat_eq hcnt
    exact ⟨s, Transmits.nil hs, by rw [← hone]⟩
  | succ n ih =>
    have hne : s.txPreCnt ≠ 1 := fun h => by simp [h] at hcnt
    have hbit := transmits_bit (b := true) hs (txStep_preamble_counts hst hne)
    have hpred : (s.txPreCnt - 1).toNat = n + 1 := by
      rw [BitVec.toNat_sub_of_le (by rw [BitVec.le_def, hcnt]; exact Nat.succ_pos _), hcnt]
      rfl
    obtain ⟨t, hrest, ht⟩ := ih hbit.ready hst hpred
    exact ⟨t, hbit.trans hrest, ht⟩

theorem cycleBits_length {n : Nat} {data : Cells} {size : Byte} (h : size.toNat ≤ 6) :
    (cycleBits n (messageBytes data size)).length = n + 9 * size.toNat := by
  rw [cycleBits, List.length_append, List.length_replicate, frameBits_length, messageBytes_length h]

/-- A ready answer with a message and no extension leads to the separator of its first byte (41_tx_encoder.md R175,
R178). -/
theorem txQuery_message {s : State} {m : Slot} {rest : List SourceAnswer} (hans : s.answers = ⟨true, some m⟩ :: rest)
    (hext : s.cfg.extPreambleImpl = false ∨ m.pre.toNat ≤ s.cfg.preambleBits.toNat) :
    txQuery s = { s with slot0 := m, txByteIdx := 0, txSlot := false, txState := .separator, answers := rest } := by
  have hready : (s.answers.headD (Config.sourceAnswer s.draws)).ready = true := by rw [hans]; rfl
  have hshort : ¬ (s.cfg.extPreambleImpl = true ∧ s.cfg.preambleBits.toNat < m.pre.toNat) := by
    rintro ⟨himpl, hlt⟩
    rcases hext with hext | hext
    · exact nomatch hext.symm.trans himpl
    · exact absurd hlt (Nat.not_lt.mpr hext)
  rw [txQuery_ready hready]
  simp [hans, hshort]

/-- From the start of a preamble, with a message of legal size as the next answer and no extension, the preamble and the
framed message are sent, and the next preamble begins (41_tx_encoder.md R174 to R184). -/
theorem transmits_cycle {s : State} {m : Slot} {rest : List SourceAnswer} (hs : s.TxReady)
    (hst : s.txState = .preamble) (hcnt : s.txPreCnt = s.cfg.preambleBits) (hpre : 1 ≤ s.cfg.preambleBits.toNat)
    (hans : s.answers = ⟨true, some m⟩ :: rest) (hok : sizeOk m.size = true)
    (hext : s.cfg.extPreambleImpl = false ∨ m.pre.toNat ≤ s.cfg.preambleBits.toNat) :
    ∃ t, Transmits (cycleBits s.cfg.preambleBits.toNat (messageBytes m.data m.size)) s t ∧
      t = { s with
        slot0 := m, answers := rest, txPreCnt := s.cfg.preambleBits, txByteIdx := t.txByteIdx, txSlot := false
        txMask := t.txMask, txCurByte := t.txCurByte, txLatch := t.txLatch, txPhase := t.txPhase, txPin := t.txPin
        txTrace := t.txTrace } := by
  obtain ⟨n, hn⟩ : ∃ n, s.cfg.preambleBits.toNat = n + 1 := ⟨_, (Nat.sub_add_cancel hpre).symm⟩
  obtain ⟨hlo, -⟩ := (sizeOk_iff _).mp hok
  obtain ⟨t, hones, ht⟩ := transmits_preamble hs hst (hcnt ▸ hn)
  have hquery := txQuery_message (s := { t with txPreCnt := 0 }) (m := m) (rest := rest) (by rw [ht]; exact hans)
    (by rw [ht]; exact hext)
  have hlast := transmits_bit (b := true) hones.ready
    (txStep_preamble_last (by rw [ht]; exact hst) (by rw [ht]) hquery)
  obtain ⟨u, hmessage, hu⟩ := transmits_message (m := m.size.toNat - 1) hlast.ready rfl hok
    (by show 0 + 1 + (m.size.toNat - 1) = m.size.toNat; omega)
  have hbits : cycleBits s.cfg.preambleBits.toNat (messageBytes m.data m.size) =
      (List.replicate n true ++ [true]) ++ frameBits (messageBytes m.data m.size) := by
    rw [cycleBits, hn, List.replicate_succ']
  rw [hbits]
  refine ⟨u, (hones.trans hlast).trans hmessage, hu.trans ?_⟩
  rw [ht, ← hst]
  rfl

/-- Settles O35: `transmits_cycle`, with the bits of a cycle counted. -/
theorem encoderCycleSendsTheMessage : Obligations.EncoderCycleSendsTheMessage := by
  unfold Obligations.EncoderCycleSendsTheMessage
  intro s m rest hf hie htx hph hst hcnt hpre hans hlo hhi hext
  obtain ⟨t, hsent, ht⟩ :=
    transmits_cycle ⟨hf, hie, htx, hph⟩ hst hcnt hpre hans ((sizeOk_iff _).mpr ⟨hlo, hhi⟩) hext
  refine ⟨t, cycleBits_length hhi ▸ hsent.run, hsent.trace, ?_, ?_, hsent.ready.phase, ?_, ?_, hsent.ready.fault⟩
  · rw [ht]; exact hst
  all_goals rw [ht]

end Sys2Proof.Machine

namespace Sys2Proof.Machine

/-! ## Steps and deliveries (60_exceptions.md R302 to R312) -/

section Steps

variable {s : State}

/-- A step of a legal configuration without a fault delivers the word that `firstDeliverable` takes. -/
theorem step_of_firstDeliverable {d : Delivery} {held : List Delivery} (hc : legalConfig s.cfg = true)
    (hf : s.fault = 0) (h : firstDeliverable s s.inbox = some (d, held)) :
    step s = deliver d { s with inbox := held } := by
  rw [step, nextStep, if_pos hc, if_neg (not_not_intro hf), h]

/-- A step at which every word waits leaves the state as it is (60_exceptions.md R312). -/
theorem step_of_all_wait (hc : legalConfig s.cfg = true) (hf : s.fault = 0)
    (h : ∀ d ∈ s.inbox, s.waits d = true) : step s = .next s := by
  rw [step, nextStep, if_pos hc, if_neg (not_not_intro hf), firstDeliverable_none.mpr h]

/-- The words that wait stay held before the first one that does not. -/
theorem firstDeliverable_append {waiting held : List Delivery} {d : Delivery}
    (hw : ∀ e ∈ waiting, s.waits e = true) (hd : s.waits d = false) :
    firstDeliverable s (waiting ++ d :: held) = some (d, waiting ++ held) := by
  induction waiting with
  | nil => exact firstDeliverable_head hd
  | cons e waiting ih =>
    obtain ⟨he, hw⟩ := List.forall_mem_cons.mp hw
    rw [List.cons_append, firstDeliverable, if_pos he, ih hw]
    rfl

/-- A word of an enabled operation does not wait. -/
theorem waits_of_decode_op {d : Delivery} {i : Instr} (h : decode d.agent d.word = .op i) :
    s.waits d = !s.enables i := by
  rw [State.waits, h]

/-- A word that decode rejects never waits (60_exceptions.md R302). -/
theorem waits_of_decode_illegal {d : Delivery} {why : Reject} (h : decode d.agent d.word = .illegal why) :
    s.waits d = false := by
  rw [State.waits, h]

theorem deliver_of_decode_op {d : Delivery} {i : Instr} (h : decode d.agent d.word = .op i) :
    deliver d s = exec i s := by
  rw [deliver, h]

end Steps

/-- Settles O14: the waiting words are passed over and stay held, and the word taken is delivered. -/
theorem waitingWordStaysHeld : Obligations.WaitingWordStaysHeld := by
  unfold Obligations.WaitingWordStaysHeld
  refine ⟨fun s waiting held d hc hf hin hw => ?_, fun s hc hf hw => step_of_all_wait hc hf hw⟩
  have hstep : s.waits d = false → step s = deliver d { s with inbox := waiting ++ held } := fun hd =>
    step_of_firstDeliverable hc hf (by rw [hin, firstDeliverable_append hw hd])
  refine ⟨hstep, fun i hdec hen => ?_, fun why hdec => ?_⟩
  · rw [hstep (by rw [waits_of_decode_op hdec, hen]; rfl), deliver_of_decode_op hdec]
  · exact (hstep (waits_of_decode_illegal hdec)).trans (deliver_of_decode_illegal hf hdec)

/-- A step executes the enabled operation that the first word held decodes to. -/
theorem step_of_head {s : State} {d : Delivery} {held : List Delivery} {i : Instr} (hc : legalConfig s.cfg = true)
    (hf : s.fault = 0) (hin : s.inbox = d :: held) (hdec : decode d.agent d.word = .op i) (hen : s.enables i = true) :
    step s = exec i { s with inbox := held } := by
  have hd : s.waits d = false := by rw [waits_of_decode_op hdec, hen]; rfl
  rw [step_of_firstDeliverable hc hf (by rw [hin, firstDeliverable_head hd]), deliver_of_decode_op hdec]

/-- Settles O11: a step with no word waiting before its own. -/
theorem stepRunsTheDecodedOperation : Obligations.StepRunsTheDecodedOperation := by
  unfold Obligations.StepRunsTheDecodedOperation
  intro s d held i hc hf hin hdec hen
  exact step_of_head hc hf hin hdec hen

/-! ### A placed word -/

theorem decodeTableWord_eq_some_iff {nbits n : Nat} {i : Instr} :
    decodeTableWord nbits n = some i ↔ decode (issuingAgent (tableWord nbits n)) (tableWord nbits n) = .op i := by
  unfold decodeTableWord
  split
  · simp [*]
  · simp [*]

/-- Settles O12: the placed word is at the head of the inbox, its operation is enabled, and the step takes it. -/
theorem stepRunsThePlacedWord : Obligations.StepRunsThePlacedWord := by
  unfold Obligations.StepRunsThePlacedWord
  intro s nbits w i hc hf hdec
  have hop := decodeTableWord_eq_some_iff.mp hdec
  have hplaced : s.withFetchWord nbits w = { enableFor (some i) s with
      inbox := ⟨issuingAgent (tableWord nbits w), tableWord nbits w⟩ :: s.inbox } := by
    rw [← hdec]
    rfl
  rw [hplaced]
  cases i with
  | _ => exact step_of_head (held := s.inbox) hc hf rfl hop rfl

/-! ### Masked events and faulted states -/

/-- TXT with one of its enables 0 has no step (60_exceptions.md R311; log entry 6). -/
theorem exec_txt_masked {s : State} (hf : s.fault = 0) (h : s.ie = false ∨ s.txEn = false) :
    exec .txt s = .next s := by
  have hmasked : s.txtEnabled = false := by
    rw [State.txtEnabled, Bool.and_eq_false_iff]
    exact h
  exact whenEnabled_masked hf hmasked

/-- RXE with one of its enables 0 has no step (60_exceptions.md R311; log entry 6). -/
theorem exec_rxe_masked {s : State} (level : Bool) (time : Ticks) (hf : s.fault = 0)
    (h : s.ie = false ∨ s.rxEn = false) : exec (.rxe level time) s = .next s := by
  have hmasked : s.rxeEnabled = false := by
    rw [State.rxeEnabled, Bool.and_eq_false_iff]
    exact h
  exact whenEnabled_masked hf hmasked

/-- Settles O13, one event after the other. -/
theorem maskedEventHasNoEffect : Obligations.MaskedEventHasNoEffect := by
  unfold Obligations.MaskedEventHasNoEffect
  exact ⟨fun s hf h => exec_txt_masked hf h, fun s level time hf h => exec_rxe_masked level time hf h⟩

section Halted

variable {s : State} (hf : s.fault ≠ 0)
include hf

theorem exec_halted (i : Instr) : exec i s = .fault .halted := by
  cases i with
  | _ => exact whenEnabled_halted hf

theorem deliver_halted (d : Delivery) : deliver d s = .fault .halted := by
  unfold deliver
  cases decode d.agent d.word with
  | op i => exact exec_halted hf i
  | illegal why => exact whenEnabled_halted hf

theorem step_halted (hc : legalConfig s.cfg = true) : step s = .fault .halted := by
  rw [step, nextStep, if_pos hc, if_pos hf]

end Halted

/-- Settles O15: every operation is gated by `whenEnabled`, and so is a rejected word. -/
theorem faultedStateHasNoStep : Obligations.FaultedStateHasNoStep := by
  unfold Obligations.FaultedStateHasNoStep
  exact fun s hf => ⟨exec_halted hf, deliver_halted hf, step_halted hf⟩

/-! ### An unfaulted state answers a next state -/

section Answers

variable {s : State}

theorem whenEnabled_answers {e : Bool} {r : Result} (hf : s.fault = 0) (h : ∃ t, r = .next t) :
    ∃ t, whenEnabled s e r = .next t := by
  cases e with
  | true => rwa [whenEnabled_effect hf rfl]
  | false => exact ⟨s, whenEnabled_masked hf rfl⟩

theorem latchRead_answers (o : Option Byte) : ∃ t, latchRead s o = .next t := by
  cases o with
  | some v => exact ⟨_, rfl⟩
  | none => exact ⟨_, rfl⟩

/-- With an index of a data cell the encoder never reads outside the message (41_tx_encoder.md R181). -/
theorem txStep_ne_noCell (hidx : s.txByteIdx.toNat ≤ 5) : txStep s ≠ .noCell := by
  cases hst : s.txState with
  | preamble => simp [txStep, hst, txPreamble]
  | extendPreamble => simp [txStep, hst, txExtendPreamble]
  | separator =>
    by_cases hok : sizeOk (s.slot s.txSlot).size = true
    · obtain ⟨v, hv⟩ := Option.isSome_iff_exists.mp (((s.slot s.txSlot).data.read_isSome_iff _).mpr hidx)
      rw [txStep_separator hst hok hv]
      nofun
    · rw [txStep_badSize hok (.inl hst)]
      nofun
  | sendByte =>
    by_cases hlast : s.txMask >>> 1 = 0
    · by_cases hok : sizeOk (s.slot s.txSlot).size = true
      · rw [txStep_sendByte_last hst hlast hok]
        nofun
      · rw [txStep_badSize hok (.inr ⟨hst, hlast⟩)]
        nofun
    · rw [txStep_sendByte_more hst hlast]
      nofun

theorem advanceHalf_answers (hidx : s.txByteIdx.toNat ≤ 5) : ∃ t, advanceHalf s = .next t := by
  unfold advanceHalf
  cases h : txStep s with
  | sends d u => exact ⟨_, rfl⟩
  | badSize => exact ⟨_, rfl⟩
  | noCell => exact absurd h (txStep_ne_noCell hidx)

theorem execTxt_answers (hf : s.fault = 0) (hidx : s.txByteIdx.toNat ≤ 5) : ∃ t, execTxt s = .next t := by
  refine whenEnabled_answers hf ?_
  cases s.txPhase with
  | hold => exact ⟨_, rfl⟩
  | advance => exact advanceHalf_answers hidx

theorem execWrs_answers (hf : s.fault = 0) (k : Bool) (n : BitVec 4) (v : Byte) : ∃ t, execWrs k n v s = .next t := by
  refine whenEnabled_answers hf ?_
  cases slotWrite (s.slot k) n.toNat v with
  | some m => exact ⟨_, rfl⟩
  | none => exact ⟨_, rfl⟩

theorem exec_answers (hf : s.fault = 0) (hidx : s.txByteIdx.toNat ≤ 5) (i : Instr) : ∃ t, exec i s = .next t := by
  cases i with
  | txt => exact execTxt_answers hf hidx
  | wrs k n v => exact execWrs_answers hf k n v
  | rdx n => exact whenEnabled_answers hf (latchRead_answers _)
  | rdr r => exact whenEnabled_answers hf (latchRead_answers _)
  | _ => exact whenEnabled_answers hf ⟨_, rfl⟩

theorem deliver_answers (hf : s.fault = 0) (hidx : s.txByteIdx.toNat ≤ 5) (d : Delivery) :
    ∃ t, deliver d s = .next t := by
  cases h : decode d.agent d.word with
  | op i =>
    rw [deliver_of_decode_op h]
    exact exec_answers hf hidx i
  | illegal why => exact ⟨_, deliver_of_decode_illegal hf h⟩

end Answers

/-- Settles O17: the invariant keeps the byte index in range, so every delivery answers a state. -/
theorem unfaultedStateAlwaysSteps : Obligations.UnfaultedStateAlwaysSteps := by
  unfold Obligations.UnfaultedStateAlwaysSteps
  intro s hs hf
  cases h : firstDeliverable s s.inbox with
  | some taken =>
    rw [step_of_firstDeliverable hs.config hf h]
    exact deliver_answers (s := { s with inbox := taken.2 }) hf hs.tx.byteIdx taken.1
  | none => exact ⟨s, step_of_all_wait hs.config hf (firstDeliverable_none.mp h)⟩

/-! ### Reserved operands -/

section ReservedOperands

theorem exportRead_eq_none {e : ExportBuffer} {n : Nat} (h : ¬ n ≤ 6) : exportRead e n = none := by
  rwa [← exportRead_isSome_iff e, Option.not_isSome_iff_eq_none] at h

theorem slotWrite_eq_none {m : Slot} {n : Nat} {v : Byte} (h : ¬ n ≤ 7) : slotWrite m n v = none := by
  rwa [← slotWrite_isSome_iff m n v, Option.not_isSome_iff_eq_none] at h

/-- A number outside the map names no register (10_state.md R66). -/
theorem readReg_eq_none {s : State} {r : Byte} (h : ¬ (r.toNat ≤ 0x18 ∨ 0x20 ≤ r.toNat ∧ r.toNat ≤ 0x36)) :
    s.readReg r = none := by
  simp only [State.readReg]
  rw [if_neg (by omega), if_neg (by omega)]
  split_ifs with hgap hslot0 hslot1
  · rfl
  · omega
  · omega
  · exact exportRead_eq_none (by omega)

variable {s : State} (hf : s.fault = 0)
include hf

theorem exec_rdx_reserved {n : BitVec 4} (hn : exportRead s.exported n.toNat = none) :
    exec (.rdx n) s = .next { s with fault := 0x01 } :=
  (whenEnabled_effect hf rfl).trans (congrArg (latchRead s) hn)

theorem exec_rdr_reserved {r : Byte} (hr : s.readReg r = none) : exec (.rdr r) s = .next { s with fault := 0x01 } :=
  (whenEnabled_effect hf rfl).trans (congrArg (latchRead s) hr)

theorem exec_wrs_reserved {k : Bool} {n : BitVec 4} {v : Byte} (hn : slotWrite (s.slot k) n.toNat v = none) :
    exec (.wrs k n v) s = .next { s with fault := 0x01 } := by
  refine (whenEnabled_effect hf rfl).trans ?_
  rw [hn]
  rfl

end ReservedOperands

/-- Settles O21: a reserved operand names no cell and no register. -/
theorem reservedOperandRaisesIllegalOp : Obligations.ReservedOperandRaisesIllegalOp := by
  unfold Obligations.ReservedOperandRaisesIllegalOp
  intro i s hwf hf
  cases i with
  | rdx n => exact exec_rdx_reserved hf (exportRead_eq_none (wellFormed_rdx_iff.not.mp hwf))
  | wrs k n v => exact exec_wrs_reserved hf (slotWrite_eq_none (wellFormed_wrs_iff.not.mp hwf))
  | rdr r => exact exec_rdr_reserved hf (readReg_eq_none (wellFormed_rdr_iff.not.mp hwf))
  | _ => exact absurd rfl hwf

/-! ## Reads (20_memory.md R98; 10_state.md R38) -/

/-- The register map has no `RDATA` (10_state.md R66). -/
theorem readReg_with_rdata (s : State) (v r : Byte) : State.readReg { s with rdata := v } r = s.readReg r := rfl

/-- Settles O56: what a read latches does not depend on `RDATA`. -/
theorem readsAreIdempotent : Obligations.ReadsAreIdempotent := by
  unfold Obligations.ReadsAreIdempotent
  rintro i s hwf hf (rfl | ⟨n, rfl⟩ | ⟨r, rfl⟩)
  · exact ⟨_, exec_sel hf, rfl, exec_sel (s := { s with rdata := highestPending s.flags }) hf⟩
  · obtain ⟨v, hv⟩ := Option.isSome_iff_exists.mp
      ((exportRead_isSome_iff s.exported n.toNat).mpr (wellFormed_rdx_iff.mp hwf))
    exact ⟨_, exec_rdx hf hv, rfl, exec_rdx (s := { s with rdata := v }) hf hv⟩
  · obtain ⟨v, hv⟩ := Option.isSome_iff_exists.mp (readReg_isSome s r (wellFormed_rdr_iff.mp hwf))
    exact ⟨_, exec_rdr hf hv, rfl, exec_rdr (s := { s with rdata := v }) hf ((readReg_with_rdata s v r).trans hv)⟩

theorem txPhase_code_eq (ph : TxPhase) : ph.code = decide (ph = .hold) := by
  cases ph <;> rfl

/-- Settles O54: register 0x01 is the STATUS view, read bit by bit. -/
theorem statusAndStateCodes : Obligations.StatusAndStateCodes := by
  unfold Obligations.StatusAndStateCodes
  refine ⟨fun s hf => ⟨s.status, exec_rdr hf rfl, ?_⟩, rfl, rfl, rfl, rfl, rfl, rfl, rfl, rfl⟩
  simp only [State.status, BitVec.getLsbD_append, txPhase_code_eq]
  simp

/-- Settles O7: each word is the encoder's word of its operation, whose agent is entitled to it. -/
theorem sampleWordsDecode : Obligations.SampleWordsDecode := by
  unfold Obligations.SampleWordsDecode
  exact ⟨decode_encode (i := .req 7) rfl .main, decode_encode (i := .clr 1) rfl .main,
    decode_encode (i := .rxe true 0x1234) rfl .edge, decode_encode (i := .rxe false 232) rfl .edge,
    decode_encode (i := .wrs false 6 3) rfl .main, decode_encode (i := .wrs true 2 0xFF) rfl .main,
    decode_encode (i := .rdr 0x36) rfl .main, decode_encode (i := .mode true) rfl .main,
    decode_encode (i := .sel) rfl .main, decode_encode (i := .txt) rfl .timer, decode_encode (i := .reset) rfl .rst,
    decode_encode (i := .rdx 6) rfl .main⟩

end Sys2Proof.Machine

namespace Sys2Proof.Machine

/-! ## What every RXE does (42_rx_decoder.md R211, R229) -/

/-- Setting flags clears none. -/
theorem setFlags_and_self (flags m : Byte) : setFlags flags m &&& flags = flags := by
  ext k hk
  rw [setFlags, BitVec.getElem_and, BitVec.getElem_or]
  cases flags[k] with
  | false => rw [Bool.and_false]
  | true => rfl

/-- An edge only sets flags: a falling one sets its task's flag where it puts out a packet (42_rx_decoder.md R224). -/
theorem edgeStep_keeps_flags (level : Bool) (time : Ticks) (s : State) :
    (edgeStep level time s).flags &&& s.flags = s.flags := by
  cases level with
  | true => exact BitVec.and_self
  | false =>
    rw [edgeStep_falling_withOutput]
    obtain ⟨-, hflags⟩ | ⟨-, -, -, -, hflags⟩ := rxStep_exported (classify s.cfg (time - s.rxStart)) s
    · exact hflags ▸ BitVec.and_self
    · exact hflags ▸ setFlags_and_self s.flags _

/-- Settles O42: a masked edge changes nothing, and an enabled one has the effect of `edgeStep`. -/
theorem rxeLeavesEverythingElse : Obligations.RxeLeavesEverythingElse := by
  unfold Obligations.RxeLeavesEverythingElse
  intro level time s t h
  obtain rfl | rfl := execRxe_next h
  · exact ⟨rfl, BitVec.and_self⟩
  · exact ⟨edgeStep_writes level time s, edgeStep_keeps_flags level time s⟩

/-- `RX_DIAG` after an edge (42_rx_decoder.md R211). -/
theorem edgeStep_rxDiag (level : Bool) (time : Ticks) (s : State) :
    (edgeStep level time s).rxDiag = if (edgeStep level time s).rxState = s.rxState then s.rxDiag + 1 else 0 := by
  cases level with
  | true => exact (if_pos rfl).symm
  | false =>
    rw [edgeStep_falling_withOutput]
    rfl

/-- Settles O43: an enabled edge has the effect of `edgeStep`. -/
theorem diagnosticCounterCountsEdges : Obligations.DiagnosticCounterCountsEdges := by
  unfold Obligations.DiagnosticCounterCountsEdges
  intro level time s t hie hrx h
  have hf := fault_eq_zero_of_exec_next h
  rw [exec_rxe hf (State.rxeEnabled_eq_true hie hrx)] at h
  cases h
  rw [edgeStep_rxDiag]
  split
  · rw [BitVec.toNat_add]
    rfl
  · rfl

/-! ## The traces (10_state.md R60, R61) -/

section Traces

variable {i : Instr} {s t : State}

theorem execTxt_txTrace (h : execTxt s = .next t) : t.txTrace = s.txTrace ∨ ∃ r, t.txTrace = s.txTrace ++ [r] := by
  obtain ⟨-, ⟨-, rfl⟩ | ⟨-, -, rfl⟩ | ⟨-, -, ha⟩⟩ := execTxt_next h
  · exact .inl rfl
  · exact .inr ⟨_, rfl⟩
  · obtain ⟨d, u, hu, rfl⟩ | ⟨-, rfl⟩ := advanceHalf_next ha
    · rw [txStep_writes hu]
      exact .inr ⟨_, rfl⟩
    · exact .inl rfl

theorem edgeStep_cleanTrace (level : Bool) (time : Ticks) (s : State) :
    (edgeStep level time s).cleanTrace = s.cleanTrace ++ [if s.mode then level else s.cfg.forcedLevel] := by
  cases level with
  | true => rfl
  | false =>
    rw [edgeStep_falling_withOutput]
    rfl

/-- Only TXT writes `TXTRACE`, one record at most. -/
theorem exec_txTrace (h : exec i s = .next t) :
    t.txTrace = s.txTrace ∨ i = .txt ∧ ∃ r, t.txTrace = s.txTrace ++ [r] := by
  cases i with
  | txt => exact (execTxt_txTrace h).imp_right fun hr => ⟨rfl, hr⟩
  | reset =>
    cases whenEnabled_true_next h
    exact .inl rfl
  | _ =>
    rw [exec_writes h]
    exact .inl rfl

/-- Only RXE writes `CLEANTRACE`, one level at most. -/
theorem exec_cleanTrace (h : exec i s = .next t) :
    t.cleanTrace = s.cleanTrace ∨
      (∃ level time, i = .rxe level time) ∧ ∃ out, t.cleanTrace = s.cleanTrace ++ [out] := by
  cases i with
  | rxe level time =>
    obtain rfl | rfl := execRxe_next h
    · exact .inl rfl
    · exact .inr ⟨⟨level, time, rfl⟩, _, edgeStep_cleanTrace level time s⟩
  | reset =>
    cases whenEnabled_true_next h
    exact .inl rfl
  | _ =>
    rw [exec_writes h]
    exact .inl rfl

/-- A trace that stays, or gets one record from an operation of kind `p`, grows as the statement says. -/
theorem grows_by_one {α : Type} {old new : List α} {p : Prop} (h : new = old ∨ p ∧ ∃ r, new = old ++ [r]) :
    ∃ added, new = old ++ added ∧ added.length ≤ 1 ∧ (added ≠ [] → p) := by
  obtain rfl | ⟨hp, r, rfl⟩ := h
  · exact ⟨[], (List.append_nil _).symm, Nat.zero_le 1, fun hne => absurd rfl hne⟩
  · exact ⟨[r], rfl, le_rfl, fun _ => hp⟩

end Traces

/-- Settles O58: the two traces and the parameters, each from what an operation does to it. -/
theorem tracesOnlyGrow : Obligations.TracesOnlyGrow := by
  unfold Obligations.TracesOnlyGrow
  intro i s t h
  exact ⟨grows_by_one (exec_txTrace h), grows_by_one (exec_cleanTrace h), exec_cfg h⟩

/-! ## While interrupts are masked (20_memory.md R97, R102) -/

/-- The state `s` with what MAIN's operations but SEI and RESET write taken from `t`, `IE` left out. -/
def withMainWrites (s t : State) : State :=
  { s with
    rdata := t.rdata, txEn := t.txEn, rxEn := t.rxEn, mode := t.mode, fault := t.fault, slot0 := t.slot0
    slot1 := t.slot1, flags := t.flags }

/-- With `IE` 0 an operation but SEI and RESET keeps every field that MAIN does not write. -/
theorem exec_masked {i : Instr} {s t : State} (hie : s.ie = false) (hsei : i ≠ .sei) (hreset : i ≠ .reset)
    (h : exec i s = .next t) : t = withMainWrites s t := by
  have hf := fault_eq_zero_of_exec_next h
  cases i with
  | txt =>
    rw [exec_txt_masked hf (.inl hie)] at h
    cases h
    rfl
  | rxe level time =>
    rw [exec_rxe_masked level time hf (.inl hie)] at h
    cases h
    rfl
  | cli =>
    cases whenEnabled_true_next h
    rw [← hie]
    rfl
  | sei => exact absurd rfl hsei
  | reset => exact absurd rfl hreset
  | wrs k n v =>
    rw [exec_writes h]
    cases k <;> rfl
  | _ =>
    rw [exec_writes h]
    rfl

theorem deliver_masked {d : Delivery} {s t : State} (hie : s.ie = false)
    (hd : decode d.agent d.word ≠ .op .sei ∧ decode d.agent d.word ≠ .op .reset) (h : deliver d s = .next t) :
    t = withMainWrites s t := by
  obtain ⟨i, hdec, he⟩ | ⟨-, -, rfl⟩ := deliver_next h
  · exact exec_masked hie (fun hi => hd.1 (hi ▸ hdec)) (fun hi => hd.2 (hi ▸ hdec)) he
  · rfl

/-- Each delivery keeps `IE` at 0, so the next one is masked too. -/
theorem runWords_masked {ds : List Delivery} {s t : State} (hie : s.ie = false)
    (hds : ∀ d ∈ ds, decode d.agent d.word ≠ .op .sei ∧ decode d.agent d.word ≠ .op .reset)
    (h : runWords ds s = .next t) : t = withMainWrites s t := by
  induction ds generalizing s with
  | nil =>
    cases h
    rfl
  | cons d ds ih =>
    obtain ⟨hd, hds⟩ := List.forall_mem_cons.mp hds
    obtain ⟨u, hfirst, hrest⟩ := runWords_cons_next h
    have hu := deliver_masked hie hd hfirst
    have huie : u.ie = false := by rw [hu]; exact hie
    rw [ih huie hds hrest, hu]
    rfl

/-- Settles O59: the frame is that of MAIN's operations. -/
theorem maskedBracketIsAtomic : Obligations.MaskedBracketIsAtomic := by
  unfold Obligations.MaskedBracketIsAtomic
  intro ds s t hie hds h
  exact runWords_masked hie hds h

/-! ## The packet test (30_encoding.md R125; 42_rx_decoder.md R223) -/

/-- A message of legal size ends with the cell below its size. -/
theorem messageBytes_eq_append {data : Cells} {size : Byte} (hlo : 1 ≤ size.toNat) (hhi : size.toNat ≤ 6) :
    ∃ check, data.read (size.toNat - 1) = some check ∧
      messageBytes data size = data.toList.take (size.toNat - 1) ++ [check] := by
  obtain ⟨check, hcheck⟩ := Option.isSome_iff_exists.mp ((data.read_isSome_iff (size.toNat - 1)).mpr (by omega))
  refine ⟨check, hcheck, ?_⟩
  rw [Cells.read_eq_getElem] at hcheck
  obtain ⟨hlt, hget⟩ := List.getElem?_eq_some_iff.mp hcheck
  rw [messageBytes, ← hget, ← List.take_succ_eq_append_getElem hlt, Nat.sub_add_cancel hlo]

/-- The packet test in terms of the message: its last byte is the cell below the size, and the bytes before it are the
cells before that. -/
theorem validPacket_iff {data : Cells} {size : Byte} :
    validPacket data size = true ↔ 3 ≤ size.toNat ∧ size.toNat ≤ 6 ∧
      ∃ (body : List Byte) (check : Byte), messageBytes data size = body ++ [check] ∧ check = xorBytes body := by
  simp only [validPacket, Bool.and_eq_true, decide_eq_true_eq, beq_iff_eq, and_assoc]
  refine and_congr_right fun hlo => and_congr_right fun hhi => ?_
  obtain ⟨check, hread, hbytes⟩ := messageBytes_eq_append (data := data) (by omega : 1 ≤ size.toNat) hhi
  rw [hread, hbytes]
  constructor
  · intro h
    exact ⟨_, check, rfl, Option.some.inj h⟩
  · rintro ⟨body, check', heq, hlaw⟩
    obtain ⟨rfl, hcheck⟩ := List.append_inj' heq rfl
    cases hcheck
    rw [hlaw]

/-- Settles O41: the XOR of the bytes is their fold. -/
theorem validPacketIsTheChecksumLaw : Obligations.ValidPacketIsTheChecksumLaw := by
  unfold Obligations.ValidPacketIsTheChecksumLaw
  exact fun _ _ => validPacket_iff

end Sys2Proof.Machine

namespace Sys2Proof

/-! ## Writing a run of cells -/

/-- The cells with the bytes written from index `n` on. -/
def Cells.writeFrom (a : Cells) (n : Nat) : List Byte → Cells
  | [] => a
  | b :: bs => (a.write n b).writeFrom (n + 1) bs

/-- The cells below and above the bytes stay as they are. -/
theorem Cells.toList_writeFrom {bs : List Byte} {n : Nat} (a : Cells) (h : n + bs.length ≤ 6) :
    (a.writeFrom n bs).toList = a.toList.take n ++ bs ++ a.toList.drop (n + bs.length) := by
  induction bs generalizing a n with
  | nil => simp [Cells.writeFrom]
  | cons b bs ih =>
    rw [List.length_cons] at h
    have hlen : n < a.toList.length := show n < 6 by omega
    have hcell : (a.write n b).toList.take (n + 1) = a.toList.take n ++ [b] := by
      rw [Cells.toList_write, List.set_eq_take_append_cons_drop, if_pos hlen, List.take_append]
      simp [hlen.le]
    have hnext : n + 1 + bs.length = n + (bs.length + 1) := by omega
    rw [Cells.writeFrom, ih _ (by omega), hcell, Cells.toList_write, List.drop_set_of_lt (by omega), hnext,
      List.length_cons, List.append_assoc _ [b], List.singleton_append]

/-- Writing a message into cells of 0 pads it (70_reset_and_hazards.md R340). -/
theorem Cells.writeFrom_zero {bs : List Byte} (h : bs.length ≤ 6) : Cells.zero.writeFrom 0 bs = Cells.ofList bs := by
  rcases bs with _ | ⟨b0, _ | ⟨b1, _ | ⟨b2, _ | ⟨b3, _ | ⟨b4, _ | ⟨b5, _ | ⟨b6, bs⟩⟩⟩⟩⟩⟩⟩
  case cons.cons.cons.cons.cons.cons.cons =>
    simp only [List.length_cons] at h
    omega
  all_goals rfl

namespace Machine

/-- The message stored in padded cells is the message. -/
theorem messageBytes_ofList {bs : List Byte} {size : Byte} (hlen : bs.length = size.toNat) (h : size.toNat ≤ 6) :
    messageBytes (Cells.ofList bs) size = bs := by
  rw [← Cells.writeFrom_zero (hlen ▸ h), messageBytes, Cells.toList_writeFrom _ (by omega), ← hlen]
  simp

/-- The packet test reads the message only. -/
theorem validPacket_congr {data data' : Cells} {size : Byte} (h : messageBytes data size = messageBytes data' size) :
    validPacket data size = validPacket data' size := by
  rw [Bool.eq_iff_iff, validPacket_iff, validPacket_iff, h]

/-! ## A run of pulses at the decoder (42_rx_decoder.md R212, R214) -/

/-- The state machine stepped by one bit after the other (42_rx_decoder.md R216). -/
def rxSteps (bits : List Bool) (s : State) : State := bits.foldl (fun s b => rxStep b s) s

theorem rxSteps_cons (b : Bool) (bits : List Bool) (s : State) :
    rxSteps (b :: bits) s = rxSteps bits (rxStep b s) := rfl

theorem rxSteps_append (bits bits' : List Bool) (s : State) :
    rxSteps (bits ++ bits') s = rxSteps bits' (rxSteps bits s) := List.foldl_append

/-- The state `s` with what edges write besides the state machine taken from `o` (42_rx_decoder.md R211 to R213). -/
def withEdgesOf (o s : State) : State :=
  { s with rxStart := o.rxStart, rxDiag := o.rxDiag, cleanPin := o.cleanPin, cleanTrace := o.cleanTrace }

/-- `RxStep(b)` neither reads nor writes these fields (42_rx_decoder.md R216 to R224). -/
theorem rxStep_withEdgesOf (b : Bool) (o s : State) : rxStep b (withEdgesOf o s) = withEdgesOf o (rxStep b s) := by
  have hst : (withEdgesOf o s).rxState = s.rxState := rfl
  simp only [rxStep, hst]
  split
  · simp only [rxPreamble, apply_ite (withEdgesOf o)]
    rfl
  · simp only [rxStartBit, apply_ite (withEdgesOf o)]
    rfl
  · simp only [rxData, apply_ite (withEdgesOf o)]
    rfl
  · have hvalid : validPacket (withEdgesOf o s).rxScratch (withEdgesOf o s).rxByteCnt =
        validPacket s.rxScratch s.rxByteCnt := rfl
    simp only [rxEndBit, hvalid]
    split
    · split <;> rfl
    · rfl

theorem rxSteps_withEdgesOf (bits : List Bool) (o s : State) :
    rxSteps bits (withEdgesOf o s) = withEdgesOf o (rxSteps bits s) := by
  induction bits generalizing s with
  | nil => rfl
  | cons b bits ih => rw [rxSteps_cons, rxSteps_cons, rxStep_withEdgesOf, ih]

/-- RXE is enabled, and the parameters are legal. -/
structure State.RxReady (s : State) : Prop where
  fault : s.fault = 0
  ie : s.ie = true
  rxEn : s.rxEn = true
  config : legalConfig s.cfg = true

theorem deliver_rxe {s : State} (hf : s.fault = 0) (level : Bool) (time : Ticks) :
    deliver ⟨.edge, encode (.rxe level time)⟩ s = exec (.rxe level time) s :=
  (deliver_encode .edge rfl hf).trans (if_pos rfl)

/-- A legal configuration reads back the bit that a half-cell carries (40_bit_timing.md R163). -/
theorem classify_timing {p : Params} (h : legalConfig p = true) (b : Bool) : classify p (timing p (.ofBit b)) = b := by
  have law := legalTimingClassifies
  unfold Obligations.LegalTimingClassifies at law
  obtain ⟨hshort, hlong, -⟩ := law p h
  cases b with
  | true => exact hshort
  | false => exact hlong

/-- One high pulse steps the state machine by its bit, at any start tick. -/
theorem runWords_pulse {s : State} (hs : s.RxReady) (start : Ticks) (b : Bool) :
    ∃ t, runWords (pulse s.cfg start b) s = .next t ∧ t = withEdgesOf t (rxStep b s) := by
  have hen := State.rxeEnabled_eq_true hs.ie hs.rxEn
  have hrise := (deliver_rxe hs.fault true start).trans (exec_rxe hs.fault hen true start)
  have hfall := (deliver_rxe (s := edgeStep true start s) hs.fault false (start + timing s.cfg (.ofBit b))).trans
    (exec_rxe (s := edgeStep true start s) hs.fault hen false _)
  have hrun : runWords (pulse s.cfg start b) s =
      .next (edgeStep false (start + timing s.cfg (.ofBit b)) (edgeStep true start s)) := by
    simp only [pulse, runWords, hrise, hfall]
  have hbit : classify (edgeStep true start s).cfg
      (start + timing s.cfg (.ofBit b) - (edgeStep true start s).rxStart) = b := by
    show classify s.cfg (start + timing s.cfg (.ofBit b) - start) = b
    rw [add_sub_cancel_left, classify_timing hs.config]
  have hstep : rxStep b (edgeStep true start s) = withEdgesOf (edgeStep true start s) (rxStep b s) :=
    rxStep_withEdgesOf b (edgeStep true start s) s
  have hmode : (edgeStep true start s).mode = (rxStep b s).mode := (rxStep_mode b s).symm
  refine ⟨_, hrun, ?_⟩
  rw [edgeStep_falling_withOutput, hbit, hstep, hmode]
  rfl

/-- A run of pulses, at any start ticks, steps the state machine by their bits. -/
theorem runWords_pulses {s : State} (hs : s.RxReady) (bits : List (Ticks × Bool)) :
    ∃ t, runWords (pulses s.cfg bits) s = .next t ∧ t = withEdgesOf t (rxSteps (bits.map Prod.snd) s) := by
  induction bits generalizing s with
  | nil => exact ⟨s, rfl, rfl⟩
  | cons q bits ih =>
    obtain ⟨u, hpulse, hu⟩ := runWords_pulse hs q.1 q.2
    have hcfg : u.cfg = s.cfg := by rw [hu]; exact rxStep_cfg q.2 s
    have hready : u.RxReady :=
      { fault := by rw [hu]; exact (rxStep_fault q.2 s).trans hs.fault
        ie := by rw [hu]; exact (rxStep_ie q.2 s).trans hs.ie
        rxEn := by rw [hu]; exact (rxStep_rxEn q.2 s).trans hs.rxEn
        config := by rw [hcfg]; exact hs.config }
    obtain ⟨t, hrest, ht⟩ := ih hready
    have hrun : runWords (pulses s.cfg (q :: bits)) s = .next t := by
      rw [pulses, List.flatMap_cons, runWords_append hpulse, ← hcfg]
      exact hrest
    refine ⟨t, hrun, ht.trans ?_⟩
    rw [hu, rxSteps_withEdgesOf]
    rfl

/-! ## The bits of a framed packet at the state machine (30_encoding.md R124) -/

section Packet

variable {s : State}

/-- PREAMBLE counts the ones up to 11 (42_rx_decoder.md R218). -/
theorem rxSteps_ones_counts (hst : s.rxState = .preamble) (hones : s.rxOnes = 0) {n : Nat} (hn : n ≤ 11) :
    rxSteps (List.replicate n true) s = { s with rxOnes := BitVec.ofNat 8 n } := by
  induction n with
  | zero => exact congrArg (fun v => { s with rxOnes := v }) hones
  | succ n ih =>
    have hle : (BitVec.ofNat 8 n).toNat ≤ 10 := by rw [BitVec.toNat_ofNat]; omega
    rw [List.replicate_succ', rxSteps_append, ih (by omega)]
    refine (rxStep_preamble_counts (s := { s with rxOnes := BitVec.ofNat 8 n }) hst hle).trans ?_
    rw [BitVec.ofNat_add]
    rfl

/-- START_BIT passes over ones (42_rx_decoder.md R219). -/
theorem rxSteps_ones_startBit (hst : s.rxState = .startBit) (n : Nat) : rxSteps (List.replicate n true) s = s := by
  induction n with
  | zero => rfl
  | succ n ih => rw [List.replicate_succ, rxSteps_cons, rxStep_startBit hst, if_pos rfl, ih]

/-- The twelfth one ends the preamble, and those that follow are passed over (42_rx_decoder.md R218, R219). -/
theorem rxSteps_ones (hst : s.rxState = .preamble) (hones : s.rxOnes = 0) {n : Nat} (hn : 12 ≤ n) :
    rxSteps (List.replicate n true) s =
      { s with rxOnes := 0, rxScratch := Cells.zero, rxAcc := 0, rxState := .startBit } := by
  obtain ⟨k, rfl⟩ : ∃ k, n = 11 + (1 + k) := ⟨n - 12, by omega⟩
  rw [List.replicate_add, rxSteps_append, rxSteps_ones_counts hst hones le_rfl, List.replicate_add, rxSteps_append]
  have htwelfth := rxStep_preamble_last (s := { s with rxOnes := BitVec.ofNat 8 11 }) hst
    (by decide : 10 < (BitVec.ofNat 8 11).toNat)
  rw [List.replicate_one, rxSteps_cons, htwelfth]
  exact rxSteps_ones_startBit rfl k

/-- The lowest bits of a byte, the top one of them apart (20_memory.md R92). -/
theorem toNat_mod_two_pow_succ (b : Byte) (k : Nat) :
    b.toNat % 2 ^ (k + 1) = 2 ^ k * (b.getLsbD k).toNat + b.toNat % 2 ^ k := by
  rw [Nat.mod_pow_succ, Nat.add_comm, BitVec.getLsbD, Nat.toNat_testBit]

/-- A bit shifted in stands `k` places higher after `k` more (42_rx_decoder.md R220). -/
theorem ofNat_shiftIn (acc bit k m : Nat) :
    BitVec.ofNat 8 (2 ^ k * (BitVec.ofNat 8 (2 * acc + bit)).toNat + m) =
      BitVec.ofNat 8 (2 ^ (k + 1) * acc + (2 ^ k * bit + m)) := by
  have hmod : 2 ^ k * ((2 * acc + bit) % 2 ^ 8) + m ≡ 2 ^ k * (2 * acc + bit) + m [MOD 2 ^ 8] :=
    ((Nat.mod_modEq _ _).mul_left _).add_right _
  have hsum : 2 ^ k * (2 * acc + bit) + m = 2 ^ (k + 1) * acc + (2 ^ k * bit + m) := by ring
  apply BitVec.eq_of_toNat_eq
  rw [BitVec.toNat_ofNat, BitVec.toNat_ofNat, BitVec.toNat_ofNat, ← hsum]
  exact hmod

/-- DATA with the bits from bit `k` down still to come: they are shifted in below the accumulator, and the byte is
stored (42_rx_decoder.md R220, R221). -/
theorem rxSteps_bitsBelow (b : Byte) {k : Nat} (hst : s.rxState = .data) (hcnt : s.rxBitCnt.toNat + (k + 1) = 8) :
    rxSteps (bitsBelow b (k + 1)) s =
      rxByteDone { s with rxAcc := BitVec.ofNat 8 (2 ^ (k + 1) * s.rxAcc.toNat + b.toNat % 2 ^ (k + 1)) } := by
  induction k generalizing s with
  | zero =>
    have hseven : s.rxBitCnt = 7 := BitVec.eq_of_toNat_eq (Nat.succ.inj hcnt)
    rw [bitsBelow, bitsBelow, rxSteps_cons, rxStep_data_eighth hst hseven, toNat_mod_two_pow_succ b 0]
    simp [rxSteps, rxByteDone, Nat.mod_one]
  | succ k ih =>
    have hne : s.rxBitCnt ≠ 7 := by
      intro hseven
      have hlt : s.rxBitCnt.toNat < 7 := by omega
      exact absurd (congrArg BitVec.toNat hseven) hlt.ne
    have hsucc : (s.rxBitCnt + 1).toNat = s.rxBitCnt.toNat + 1 :=
      BitVec.toNat_add_of_lt (by show s.rxBitCnt.toNat + 1 < 256; omega)
    have hrest := ih
      (s := { s with
        rxAcc := BitVec.ofNat 8 (2 * s.rxAcc.toNat + (b.getLsbD (k + 1)).toNat), rxBitCnt := s.rxBitCnt + 1 })
      hst (by show (s.rxBitCnt + 1).toNat + (k + 1) = 8; omega)
    rw [bitsBelow, rxSteps_cons, rxStep_data_shifts hst hne, hrest, ofNat_shiftIn, ← toNat_mod_two_pow_succ]
    rfl

/-- DATA at the start of a byte reads it (42_rx_decoder.md R220, R221). -/
theorem rxSteps_byteBits (b : Byte) (hst : s.rxState = .data) (hcnt : s.rxBitCnt = 0) :
    rxSteps (byteBits b) s = rxByteDone { s with rxAcc := b } := by
  rw [byteBits_eq_bitsBelow, rxSteps_bitsBelow b hst (by rw [hcnt]; rfl)]
  have hacc : BitVec.ofNat 8 (2 ^ 8 * s.rxAcc.toNat + b.toNat % 2 ^ 8) = b := by
    apply BitVec.eq_of_toNat_eq
    simpa using b.isLt
  rw [hacc]

/-- The end of one of the first six bytes, as one record update (42_rx_decoder.md R221). -/
theorem rxByteDone_of_lt (h : s.rxByteCnt.toNat < 6) :
    rxByteDone s = { s with
      rxScratch := s.rxScratch.write s.rxByteCnt.toNat s.rxAcc, rxByteCnt := s.rxByteCnt + 1, rxBitCnt := 0
      rxState := .endBit } := by
  have hcnt : BitVec.ofNat 8 (min (s.rxByteCnt.toNat + 1) 7) = s.rxByteCnt + 1 := by
    rw [min_eq_left (by omega), BitVec.ofNat_add, BitVec.ofNat_toNat, BitVec.setWidth_eq]
    rfl
  rw [rxByteDone, if_pos h, hcnt]

/-- From END_BIT each framed byte is stored after the one before it (42_rx_decoder.md R220 to R222). -/
theorem rxSteps_frameBits {bs : List Byte} (hst : s.rxState = .endBit) (hbit : s.rxBitCnt = 0)
    (hlen : s.rxByteCnt.toNat + bs.length ≤ 6) :
    ∃ acc, rxSteps (frameBits bs) s = { s with
      rxScratch := s.rxScratch.writeFrom s.rxByteCnt.toNat bs
      rxByteCnt := s.rxByteCnt + BitVec.ofNat 8 bs.length, rxAcc := acc } := by
  induction bs generalizing s with
  | nil => exact ⟨s.rxAcc, by simp [frameBits, rxSteps, Cells.writeFrom]⟩
  | cons b bs ih =>
    rw [List.length_cons] at hlen
    have hlt : s.rxByteCnt.toNat < 6 := by omega
    have hnext : (s.rxByteCnt + 1).toNat = s.rxByteCnt.toNat + 1 :=
      BitVec.toNat_add_of_lt (by show s.rxByteCnt.toNat + 1 < 256; omega)
    have hbyte : rxSteps (false :: byteBits b) s = { s with
        rxScratch := s.rxScratch.write s.rxByteCnt.toNat b, rxByteCnt := s.rxByteCnt + 1, rxAcc := b } := by
      rw [rxSteps_cons, rxStep_endBit_zero hst, rxSteps_byteBits (s := { s with rxState := .data }) b rfl hbit,
        rxByteDone_of_lt (s := { s with rxState := .data, rxAcc := b }) hlt, ← hst, ← hbit]
    obtain ⟨acc, hrest⟩ := ih
      (s := { s with rxScratch := s.rxScratch.write s.rxByteCnt.toNat b, rxByteCnt := s.rxByteCnt + 1, rxAcc := b })
      hst hbit (by show (s.rxByteCnt + 1).toNat + bs.length ≤ 6; omega)
    refine ⟨acc, ?_⟩
    have hcount : s.rxByteCnt + BitVec.ofNat 8 (bs.length + 1) = s.rxByteCnt + 1 + BitVec.ofNat 8 bs.length := by
      rw [BitVec.ofNat_add, add_comm (BitVec.ofNat 8 bs.length), ← add_assoc]
      rfl
    rw [frameBits, rxSteps_append, hbyte, hrest, List.length_cons, hcount, Cells.writeFrom, ← hnext]

/-- The first "0" after the preamble starts the bytes as a "0" of END_BIT with no byte received does (42_rx_decoder.md
R219, R222). -/
theorem rxSteps_frameBits_of_startBit {bs : List Byte} (hst : s.rxState = .startBit) (hne : bs ≠ []) :
    rxSteps (frameBits bs) s =
      rxSteps (frameBits bs) { s with rxBitCnt := 0, rxByteCnt := 0, rxState := .endBit } := by
  cases bs with
  | nil => exact absurd rfl hne
  | cons b bs =>
    rw [frameBits, List.cons_append, rxSteps_cons, rxSteps_cons, rxStep_startBit hst, rxStep_endBit_zero rfl]
    rfl

/-- The state machine that is sent a packet puts it out (42_rx_decoder.md R218 to R224). -/
theorem rxSteps_packet {data : Cells} {size : Byte} {ones : Nat} (hst : s.rxState = .preamble) (hones : s.rxOnes = 0)
    (hv : validPacket data size = true) (hn : 12 ≤ ones) :
    ∃ acc, rxSteps (cycleBits ones (messageBytes data size) ++ [true]) s = { s with
      rxOnes := 0, rxBitCnt := 0, rxByteCnt := size, rxScratch := Cells.ofList (messageBytes data size)
      rxAcc := acc, exported := ⟨Cells.ofList (messageBytes data size), size⟩
      flags := setFlags s.flags (taskMask s.cfg.rxTaskBit), rxState := .preamble } := by
  obtain ⟨hlo, hhi, -⟩ := validPacket_iff.mp hv
  have hlen := messageBytes_length (data := data) hhi
  have hne : messageBytes data size ≠ [] := List.ne_nil_of_length_pos (by omega)
  obtain ⟨acc, hbytes⟩ := rxSteps_frameBits
    (s := { s with
      rxOnes := 0, rxBitCnt := 0, rxByteCnt := 0, rxAcc := 0, rxScratch := Cells.zero, rxState := .endBit })
    (bs := messageBytes data size) rfl rfl (by show 0 + _ ≤ 6; omega)
  have hcells : Cells.zero.writeFrom (0 : Byte).toNat (messageBytes data size) =
      Cells.ofList (messageBytes data size) :=
    Cells.writeFrom_zero (by omega)
  have hsize : 0 + BitVec.ofNat 8 (messageBytes data size).length = size := by
    rw [hlen, BitVec.ofNat_toNat, BitVec.setWidth_eq, zero_add]
  have hsent : validPacket (Cells.ofList (messageBytes data size)) size = true :=
    (validPacket_congr (messageBytes_ofList hlen hhi)).trans hv
  rw [cycleBits, rxSteps_append, rxSteps_append, rxSteps_ones hst hones hn, rxSteps_frameBits_of_startBit rfl hne,
    hbytes]
  simp only [hcells, hsize]
  exact ⟨acc, rxStep_endBit_valid
    (s := { s with
      rxOnes := 0, rxBitCnt := 0, rxByteCnt := size, rxScratch := Cells.ofList (messageBytes data size), rxAcc := acc
      rxState := .endBit }) rfl hsent⟩

end Packet

/-- The pulses of a packet step the state machine by its bits. -/
theorem runWords_packet {s : State} {data : Cells} {size : Byte} {ones : Nat} {bits : List (Ticks × Bool)}
    (hs : s.RxReady) (hst : s.rxState = .preamble) (hones : s.rxOnes = 0) (hv : validPacket data size = true)
    (hn : 12 ≤ ones)
    (hbits : bits.map Prod.snd = cycleBits ones (messageBytes data size) ++ [true]) :
    ∃ t, runWords (pulses s.cfg bits) s = .next t ∧ t.exported = ⟨Cells.ofList (messageBytes data size), size⟩ ∧
      t.flags = setFlags s.flags (taskMask s.cfg.rxTaskBit) ∧ t.rxState = .preamble ∧ t.rxOnes = 0 := by
  obtain ⟨t, hrun, ht⟩ := runWords_pulses hs bits
  obtain ⟨acc, hpacket⟩ := rxSteps_packet hst hones hv hn
  rw [hbits, hpacket] at ht
  refine ⟨t, hrun, ?_⟩
  rw [ht]
  exact ⟨rfl, rfl, rfl, rfl⟩

/-- Settles O46: the flag set is the power of two of its bit. -/
theorem decoderExportsTheFramedPacket : Obligations.DecoderExportsTheFramedPacket := by
  unfold Obligations.DecoderExportsTheFramedPacket
  intro s data size ones bits hf hie hrx hc hst hones hv hn hbits
  rw [← taskMask_eq_twoPow]
  exact runWords_packet ⟨hf, hie, hrx, hc⟩ hst hones hv hn hbits

/-! ## The round trip (42_rx_decoder.md R230) -/

/-- The pulses that a waveform makes: each starts with the second half-cell of its bit (30_encoding.md R120). -/
def pulseStarts (p : Params) : Nat → List Bool → List (Ticks × Bool)
  | _, [] => []
  | start, b :: bits =>
    (BitVec.ofNat 16 (start + (timing p (.ofBit b)).toNat), b) ::
      pulseStarts p (start + (timing p (.ofBit b)).toNat + (timing p (.ofBit b)).toNat) bits

theorem pulseStarts_map_snd (p : Params) (start : Nat) (bits : List Bool) :
    (pulseStarts p start bits).map Prod.snd = bits := by
  induction bits generalizing start with
  | nil => rfl
  | cons b bits ih => rw [pulseStarts, List.map_cons, ih]

/-- After level 1 a half-cell of level 0 is a falling edge at its start. -/
theorem levelChanges_falling (start : Nat) (ticks : Ticks) (hs : List HalfCell) :
    levelChanges true start (⟨false, ticks⟩ :: hs) =
      ⟨.edge, encode (.rxe false (BitVec.ofNat 16 start))⟩ :: levelChanges false start (⟨false, ticks⟩ :: hs) := rfl

/-- A waveform ended by a half-cell of level 0 begins with level 0. -/
theorem bitsWaveform_append_eq_cons (p : Params) (bits : List Bool) (ticks : Ticks) :
    ∃ ticks' hs, bitsWaveform p bits ++ [⟨false, ticks⟩] = ⟨false, ticks'⟩ :: hs := by
  cases bits with
  | nil => exact ⟨_, _, rfl⟩
  | cons b bits => exact ⟨_, _, rfl⟩

/-- The level changes of a waveform, up to the half-cell that follows it, are the edges of one pulse a bit. -/
theorem levelChanges_bitsWaveform (p : Params) (start : Nat) (bits : List Bool) (ticks : Ticks) :
    levelChanges false start (bitsWaveform p bits ++ [⟨false, ticks⟩]) = pulses p (pulseStarts p start bits) := by
  induction bits generalizing start with
  | nil => rfl
  | cons b bits ih =>
    obtain ⟨ticks', hs, hrest⟩ := bitsWaveform_append_eq_cons p bits ticks
    have hbit : bitsWaveform p (b :: bits) ++ [⟨false, ticks⟩] =
        ⟨false, timing p (.ofBit b)⟩ :: ⟨true, timing p (.ofBit b)⟩ :: (bitsWaveform p bits ++ [⟨false, ticks⟩]) := rfl
    have hfall : BitVec.ofNat 16 (start + (timing p (.ofBit b)).toNat + (timing p (.ofBit b)).toNat) =
        BitVec.ofNat 16 (start + (timing p (.ofBit b)).toNat) + timing p (.ofBit b) := by
      rw [BitVec.ofNat_add _ (timing p (.ofBit b)).toNat, BitVec.ofNat_toNat, BitVec.setWidth_eq]
    rw [hbit, pulseStarts, pulses, List.flatMap_cons, pulse, ← hfall, ← pulses, ← ih, hrest]
    rfl

/-- A run of TXT words writes what TXT writes (41_tx_encoder.md R188). -/
theorem runWords_timerTicks_writes {n : Nat} {s t : State} (h : runWords (timerTicks n) s = .next t) :
    t = withWritesOf .txt s t := by
  induction n generalizing s with
  | zero =>
    cases h
    rfl
  | succ n ih =>
    obtain ⟨u, hfirst, hrest⟩ := runWords_cons_next h
    rw [deliver_txt] at hfirst
    rw [ih hrest, execTxt_writes hfirst]
    rfl

theorem timerTicks_succ (n : Nat) : timerTicks (n + 1) = timerTicks n ++ [⟨.timer, encode .txt⟩] :=
  List.replicate_succ'

/-- PREAMBLE before its last bit begins that bit with a SHORT half-cell of level 0 (41_tx_encoder.md R172, R174). -/
theorem execTxt_preamble_counts {s : State} (hs : s.TxReady) (hst : s.txState = .preamble) (hcnt : s.txPreCnt ≠ 1) :
    ∃ t, execTxt s = .next t ∧ t.fault = 0 ∧ t.txTrace = s.txTrace ++ [⟨false, s.cfg.halfShort⟩] :=
  ⟨_, exec_txt_sends hs (txStep_preamble_counts hst hcnt), hs.fault, rfl⟩

/-- A cycle, the first bit of the next preamble, which is the stop bit, and the half-cell after it (30_encoding.md R122,
R124). -/
theorem runWords_cycle_and_stop {s : State} {m : Slot} {rest : List SourceAnswer} (hs : s.TxReady)
    (hst : s.txState = .preamble) (hcnt : s.txPreCnt = s.cfg.preambleBits) (hpre : 3 ≤ s.cfg.preambleBits.toNat)
    (hans : s.answers = ⟨true, some m⟩ :: rest) (hok : sizeOk m.size = true)
    (hext : s.cfg.extPreambleImpl = false ∨ m.pre.toNat ≤ s.cfg.preambleBits.toNat) :
    ∃ t, runWords (timerTicks (2 * (s.cfg.preambleBits.toNat + 9 * m.size.toNat) + 3)) s = .next t ∧ t.fault = 0 ∧
      t.txTrace = s.txTrace ++ (bitsWaveform s.cfg
        (cycleBits s.cfg.preambleBits.toNat (messageBytes m.data m.size) ++ [true]) ++ [⟨false, s.cfg.halfShort⟩]) := by
  obtain ⟨-, hhi⟩ := (sizeOk_iff _).mp hok
  have htwo : s.cfg.preambleBits - 1 ≠ 1 := by
    intro h
    have heq : s.cfg.preambleBits = 1 + 1 := sub_eq_iff_eq_add.mp h
    rw [heq] at hpre
    exact absurd hpre (by decide)
  have hone : s.cfg.preambleBits ≠ 1 := by
    intro h
    rw [h] at hpre
    exact absurd hpre (by decide)
  obtain ⟨t, hcycle, ht⟩ := transmits_cycle hs hst hcnt (by omega) hans hok hext
  have hcount : t.txPreCnt = s.cfg.preambleBits := by rw [ht]
  have hstate : t.txState = .preamble := by rw [ht]; exact hst
  have hsent := hcycle.trans
    (transmits_bit (b := true) hcycle.ready (txStep_preamble_counts hstate (by rw [hcount]; exact hone)))
  obtain ⟨u, hhalf, hf, htrace⟩ := execTxt_preamble_counts hsent.ready hstate
    (by show t.txPreCnt - 1 ≠ 1; rw [hcount]; exact htwo)
  have hlen : 2 * (s.cfg.preambleBits.toNat + 9 * m.size.toNat) + 3 =
      2 * (cycleBits s.cfg.preambleBits.toNat (messageBytes m.data m.size) ++ [true]).length + 1 := by
    rw [List.length_append, cycleBits_length hhi, List.length_singleton]
    omega
  refine ⟨u, ?_, hf, ?_⟩
  · rw [hlen, timerTicks_succ, runWords_append hsent.run]
    simp only [runWords, deliver_txt, hhalf]
  · rw [htrace, hsent.trace, hsent.cfg, List.append_assoc]

/-- Settles O47: the half-cells of a cycle and its stop bit make the pulses of the framed packet. -/
theorem roundTripOfTheFirstMessage : Obligations.RoundTripOfTheFirstMessage := by
  unfold Obligations.RoundTripOfTheFirstMessage
  intro s m rest hf hc hie htx hrx hph hst hcnt _ htrace hrst hones hpre hans hv hext
  obtain ⟨hlo, hhi, -⟩ := validPacket_iff.mp hv
  obtain ⟨t, hsent, htf, htt⟩ := runWords_cycle_and_stop ⟨hf, hie, htx, hph⟩ hst hcnt (by omega) hans
    ((sizeOk_iff _).mpr ⟨hlo, hhi⟩) hext
  have hw := runWords_timerTicks_writes hsent
  have hcfg : t.cfg = s.cfg := by rw [hw]; rfl
  have hflags : t.flags = s.flags := by rw [hw]; rfl
  have hloop : t.loopback = pulses t.cfg
      (pulseStarts t.cfg 0 (cycleBits s.cfg.preambleBits.toNat (messageBytes m.data m.size) ++ [true])) := by
    rw [State.loopback, htt, htrace, hcfg]
    exact levelChanges_bitsWaveform _ _ _ _
  have hready : t.RxReady := ⟨htf, by rw [hw]; exact hie, by rw [hw]; exact hrx, by rw [hcfg]; exact hc⟩
  obtain ⟨u, hrun, hexp, hflag, -⟩ := runWords_packet hready (by rw [hw]; exact hrst) (by rw [hw]; exact hones) hv hpre
    (pulseStarts_map_snd t.cfg 0 _)
  rw [← hloop] at hrun
  rw [hcfg, hflags] at hflag
  exact ⟨t, u, hsent, hrun, hexp, hflag⟩

end Machine
end Sys2Proof

namespace Sys2Proof.Machine

/-! ## The pseudo-operations (30_encoding.md R142) -/

/-- The word of an operation, delivered by MAIN (30_encoding.md R137). -/
def mainWord (i : Instr) : Delivery := ⟨.main, encode i⟩

theorem deliver_mainWord {i : Instr} {s : State} (hwf : i.WellFormed) (he : entitled .main i = true)
    (hf : s.fault = 0) :
    deliver (mainWord i) s = exec i s :=
  (deliver_encode .main hwf hf).trans (if_pos he)

section MainWords

variable {s : State} (hf : s.fault = 0)
include hf

theorem deliver_txen (y : Bool) : deliver (mainWord (.txen y)) s = .next { s with txEn := y } :=
  (deliver_mainWord rfl rfl hf).trans (exec_txen hf y)

theorem deliver_rxen (y : Bool) : deliver (mainWord (.rxen y)) s = .next { s with rxEn := y } :=
  (deliver_mainWord rfl rfl hf).trans (exec_rxen hf y)

theorem deliver_cli : deliver (mainWord .cli) s = .next { s with ie := false } :=
  (deliver_mainWord rfl rfl hf).trans (exec_cli hf)

theorem deliver_sei : deliver (mainWord .sei) s = .next { s with ie := true } :=
  (deliver_mainWord rfl rfl hf).trans (exec_sei hf)

theorem deliver_clr (b : BitVec 3) :
    deliver (mainWord (.clr b)) s = .next { s with flags := clearFlags s.flags (taskMask b) } :=
  (deliver_mainWord rfl rfl hf).trans (exec_clr hf b)

theorem deliver_rdx {n : BitVec 4} {v : Byte} (hn : n.toNat ≤ 6) (hv : exportRead s.exported n.toNat = some v) :
    deliver (mainWord (.rdx n)) s = .next { s with rdata := v } :=
  (deliver_mainWord (wellFormed_rdx_iff.mpr hn) rfl hf).trans (exec_rdx hf hv)

end MainWords

/-- A run goes on from the state that its first word answers. -/
theorem runWords_cons {d : Delivery} {ds : List Delivery} {s t : State} (h : deliver d s = .next t) :
    runWords (d :: ds) s = runWords ds t := by
  rw [runWords, h]

/-! ### LOADMSG and LOADPKT -/

theorem setSlot_slot (s : State) (k : Bool) : s.setSlot k (s.slot k) = s := by
  cases k <;> rfl

theorem setSlot_setSlot (s : State) (k : Bool) (m m' : Slot) : (s.setSlot k m).setSlot k m' = s.setSlot k m' := by
  cases k <;> rfl

@[simp] theorem setSlot_fault (s : State) (k : Bool) (m : Slot) : (s.setSlot k m).fault = s.fault := by
  cases k <;> rfl

/-- WRS words of MAIN with consecutive indices store a run of bytes in the data cells. -/
theorem runWords_wrs {s : State} (hf : s.fault = 0) (k : Bool) {bs : List Byte} {n : Nat} (h : n + bs.length ≤ 6) :
    runWords ((bs.zipIdx n).map fun (b, i) => mainWord (.wrs k (BitVec.ofNat 4 i) b)) s =
      .next (s.setSlot k { s.slot k with data := (s.slot k).data.writeFrom n bs }) := by
  induction bs generalizing s n with
  | nil => exact congrArg _ (setSlot_slot s k).symm
  | cons b bs ih =>
    rw [List.length_cons] at h
    have hidx : (BitVec.ofNat 4 n).toNat = n := by
      rw [BitVec.toNat_ofNat]
      omega
    have hwf : (Instr.wrs k (BitVec.ofNat 4 n) b).WellFormed := wellFormed_wrs_iff.mpr (by omega)
    have hcell : slotWrite (s.slot k) (BitVec.ofNat 4 n).toNat b =
        some { s.slot k with data := (s.slot k).data.write n b } := by
      rw [hidx, slotWrite, if_pos (by omega)]
    have hfirst := (deliver_mainWord hwf rfl hf).trans (exec_wrs hf hcell)
    rw [List.zipIdx_cons, List.map_cons, runWords_cons hfirst, ih (by rwa [setSlot_fault]) (by omega),
      slot_setSlot_same, setSlot_setSlot, Cells.writeFrom]

/-- The words of LOADMSG store its bytes and their number (30_encoding.md R142). -/
theorem runWords_loadCells {s : State} (hf : s.fault = 0) (k : Bool) {bytes : List Byte} (h : bytes.length ≤ 6) :
    runWords ((loadCells k bytes).map mainWord) s = .next (s.setSlot k
      ⟨(s.slot k).data.writeFrom 0 bytes, BitVec.ofNat 8 bytes.length, (s.slot k).pre⟩) := by
  have hbytes := runWords_wrs hf k (bs := bytes) (n := 0) (by omega)
  have hsize (t : State) (ht : t.fault = 0) :
      deliver (mainWord (.wrs k 6 (BitVec.ofNat 8 bytes.length))) t =
        .next (t.setSlot k { t.slot k with size := BitVec.ofNat 8 bytes.length }) :=
    (deliver_mainWord rfl rfl ht).trans (exec_wrs ht rfl)
  rw [loadCells, List.map_append, List.map_map]
  refine (runWords_append hbytes).trans ?_
  rw [List.map_singleton, runWords_cons (hsize _ (by rwa [setSlot_fault])), slot_setSlot_same, setSlot_setSlot]
  rfl

/-- A loaded message is the message. -/
theorem messageBytes_writeFrom_zero (a : Cells) {bytes : List Byte} (h : bytes.length ≤ 6) :
    messageBytes (a.writeFrom 0 bytes) (BitVec.ofNat 8 bytes.length) = bytes := by
  have hlen : (BitVec.ofNat 8 bytes.length).toNat = bytes.length := by
    rw [BitVec.toNat_ofNat]
    omega
  rw [messageBytes, hlen, Cells.toList_writeFrom _ (by omega)]
  simp

/-- A message loaded with its checksum is a valid packet (30_encoding.md R125). -/
theorem validPacket_writeFrom_zero (a : Cells) {bytes : List Byte} (hlo : 2 ≤ bytes.length) (hhi : bytes.length ≤ 5) :
    validPacket (a.writeFrom 0 (bytes ++ [xorBytes bytes])) (BitVec.ofNat 8 (bytes ++ [xorBytes bytes]).length) =
      true := by
  have hlen : (bytes ++ [xorBytes bytes]).length = bytes.length + 1 := List.length_append
  have hsize : (BitVec.ofNat 8 (bytes ++ [xorBytes bytes]).length).toNat = bytes.length + 1 := by
    rw [hlen, BitVec.toNat_ofNat]
    omega
  exact validPacket_iff.mpr
    ⟨by omega, by omega, bytes, xorBytes bytes, messageBytes_writeFrom_zero a (by omega), rfl⟩

/-! ### READPKT -/

/-- The indices that READPKT reads: `EXP_SIZE`, then `EXP_DATA[0..5]` (30_encoding.md R142). -/
def readPktIndices : List (BitVec 4) := [6, 0, 1, 2, 3, 4, 5]

/-- The cell that READPKT's read of an index names is the one at its place in the exported buffer. -/
theorem readPktIndices_getElem {e : ExportBuffer} {j : Nat} {v : Byte} (h : (e.size :: e.data.toList)[j]? = some v) :
    ∃ n, readPktIndices[j]? = some n ∧ exportRead e n.toNat = some v := by
  have hcells : readPktIndices.map (fun n => exportRead e n.toNat) = (e.size :: e.data.toList).map some := rfl
  have hj := congrArg (·[j]?) hcells
  simp only [List.getElem?_map, h, Option.map_some] at hj
  exact Option.map_eq_some_iff.mp hj

/-- A word that READPKT may see between CLI and SEI: one of its reads, or an ISR word (20_memory.md R97). -/
def IsReadOrEvent (d : Delivery) : Prop :=
  (∃ n : BitVec 4, n.toNat ≤ 6 ∧ d = mainWord (.rdx n)) ∨ d = ⟨.timer, encode .txt⟩ ∨
    ∃ level time, d = ⟨.edge, encode (.rxe level time)⟩

/-- With `IE` 0 the words but MAIN's leave a run of reads as it is (20_memory.md R97). -/
theorem runWords_filter_main {ds : List Delivery} {s : State} (hf : s.fault = 0) (hie : s.ie = false)
    (h : ∀ d ∈ ds, IsReadOrEvent d) :
    runWords ds s = runWords (ds.filter fun d => decide (d.agent = .main)) s := by
  induction ds generalizing s with
  | nil => rfl
  | cons d ds ih =>
    obtain ⟨hd, hds⟩ := List.forall_mem_cons.mp h
    obtain ⟨n, hn, rfl⟩ | rfl | ⟨level, time, rfl⟩ := hd
    · obtain ⟨v, hv⟩ := Option.isSome_iff_exists.mp ((exportRead_isSome_iff s.exported n.toNat).mpr hn)
      have hread := deliver_rdx hf hn hv
      rw [List.filter_cons_of_pos rfl, runWords_cons hread, runWords_cons hread]
      exact ih hf hie hds
    · rw [List.filter_cons_of_neg Bool.false_ne_true,
        runWords_cons ((deliver_txt s).trans (exec_txt_masked hf (.inl hie)))]
      exact ih hf hie hds
    · rw [List.filter_cons_of_neg Bool.false_ne_true,
        runWords_cons ((deliver_rxe hf level time).trans (exec_rxe_masked level time hf (.inl hie)))]
      exact ih hf hie hds

/-- Reads write `RDATA` only. -/
theorem runWords_reads {ns : List (BitVec 4)} {s : State} (hf : s.fault = 0) (h : ∀ n ∈ ns, n.toNat ≤ 6) :
    ∃ r, runWords (ns.map fun n => mainWord (.rdx n)) s = .next { s with rdata := r } := by
  induction ns generalizing s with
  | nil => exact ⟨s.rdata, rfl⟩
  | cons n ns ih =>
    obtain ⟨hn, hns⟩ := List.forall_mem_cons.mp h
    obtain ⟨v, hv⟩ := Option.isSome_iff_exists.mp ((exportRead_isSome_iff s.exported n.toNat).mpr hn)
    rw [List.map_cons, runWords_cons (deliver_rdx hf hn hv)]
    exact ih (s := { s with rdata := v }) hf hns

theorem readPktIndices_le : ∀ n ∈ readPktIndices, n.toNat ≤ 6 := by decide

/-- After the j-th read of READPKT `RDATA` is the size (the first) or the cell that the read names, as they were when
CLI ran, whatever ISR words come between (20_memory.md R97). -/
theorem runWords_readPkt {s : State} (hf : s.fault = 0) {j : Nat} {v : Byte} {ds : List Delivery}
    (hv : (s.exported.size :: s.exported.data.toList)[j]? = some v)
    (hds : ∀ d ∈ ds, d.agent = .main ∨ d = ⟨.timer, encode .txt⟩ ∨
      ∃ level time, d = ⟨.edge, encode (.rxe level time)⟩)
    (hmain : ds.filter (fun d => decide (d.agent = .main)) =
      (readPktIndices.take (j + 1)).map fun n => mainWord (.rdx n)) :
    runWords (mainWord .cli :: ds) s = .next { s with ie := false, rdata := v } := by
  have hwords : ∀ d ∈ ds, IsReadOrEvent d := by
    intro d hd
    obtain hagent | hevent := hds d hd
    · have hmem : d ∈ ds.filter fun d => decide (d.agent = .main) := List.mem_filter.mpr ⟨hd, decide_eq_true hagent⟩
      rw [hmain] at hmem
      obtain ⟨n, hn, rfl⟩ := List.mem_map.mp hmem
      exact .inl ⟨n, readPktIndices_le n (List.mem_of_mem_take hn), rfl⟩
    · exact .inr hevent
  obtain ⟨n, hn, hcell⟩ := readPktIndices_getElem hv
  have hle : n.toNat ≤ 6 := readPktIndices_le n (List.mem_of_getElem? hn)
  obtain ⟨r, hbefore⟩ := runWords_reads (s := { s with ie := false }) (ns := readPktIndices.take j) hf
    fun n hn => readPktIndices_le n (List.mem_of_mem_take hn)
  have hlast := deliver_rdx (s := { s with ie := false, rdata := r }) hf hle hcell
  rw [runWords_cons (deliver_cli hf),
    runWords_filter_main (s := { s with ie := false }) hf rfl hwords, hmain, List.take_add_one, hn, List.map_append,
    runWords_append hbefore]
  exact runWords_cons hlast

/-- READPKT ends with interrupts unmasked and the last cell read (30_encoding.md R142). -/
theorem runWords_readPkt_and_sei {s : State} (hf : s.fault = 0) :
    runWords ((Instr.cli :: readPktIndices.map .rdx ++ [Instr.sei]).map mainWord) s =
      .next { s with ie := true, rdata := s.exported.data.c5 } := by
  have hreads := runWords_readPkt (j := 6) (v := s.exported.data.c5) (ds := (readPktIndices.map .rdx).map mainWord) hf
    rfl (fun d hd => .inl (by obtain ⟨i, -, rfl⟩ := List.mem_map.mp hd; rfl)) rfl
  rw [List.map_append, List.map_cons, runWords_append hreads]
  exact runWords_cons (deliver_sei (s := { s with ie := false, rdata := s.exported.data.c5 }) hf)

/-- START sets the three enables (30_encoding.md R142). -/
theorem runWords_start {s : State} (hf : s.fault = 0) :
    runWords ([Instr.txen true, Instr.rxen true, Instr.sei].map mainWord) s =
      .next { s with ie := true, txEn := true, rxEn := true } := by
  have htxen := deliver_txen hf true
  have hrxen := deliver_rxen (s := { s with txEn := true }) hf true
  have hsei := deliver_sei (s := { s with txEn := true, rxEn := true }) hf
  rw [List.map_cons, List.map_cons, List.map_singleton, runWords_cons htxen, runWords_cons hrxen]
  exact runWords_cons hsei

/-- Settles O60: the words of LOADMSG and LOADPKT store the message, those of READPKT read what stands while interrupts
are masked, and those of START and ACK are single operations. -/
theorem pseudoOperationsDoWhatTheyName : Obligations.PseudoOperationsDoWhatTheyName := by
  unfold Obligations.PseudoOperationsDoWhatTheyName
  refine ⟨?_, ?_, ?_, ?_, ?_⟩
  · intro s k bytes hf hlo hhi
    have hsize : (BitVec.ofNat 8 bytes.length).toNat = bytes.length := by
      rw [BitVec.toNat_ofNat]
      omega
    refine ⟨_, _, if_pos ⟨hlo, hhi⟩, runWords_loadCells hf k hhi, ?_⟩
    rw [slot_setSlot_same]
    refine ⟨?_, hsize, rfl, slot_setSlot_not _ _ _, setSlot_writes _ _ _⟩
    rw [Cells.toList_writeFrom _ (by omega), Nat.zero_add]
    rfl
  · intro s k bytes hf hlo hhi
    have hlen : (bytes ++ [xorBytes bytes]).length = bytes.length + 1 := List.length_append
    refine ⟨_, _, if_pos (by omega), if_pos (by rw [← xorBytes]; omega), runWords_loadCells hf k (by omega), ?_⟩
    rw [slot_setSlot_same]
    exact ⟨validPacket_writeFrom_zero _ (by omega) (by omega), messageBytes_writeFrom_zero _ (by omega),
      setSlot_writes _ _ _, slot_setSlot_not _ _ _, rfl⟩
  · intro s hf
    exact ⟨_, rfl, runWords_start hf⟩
  · intro s hf
    refine ⟨readPktIndices.map .rdx, rfl, fun j v ds hv hds hmain => ?_, runWords_readPkt_and_sei hf⟩
    rw [← List.map_take, List.map_map] at hmain
    exact runWords_readPkt hf hv hds hmain
  · intro s b hf
    exact ⟨_, rfl, runWords_cons (deliver_clr hf b)⟩

end Sys2Proof.Machine
